-- ==== Sys2Proof/Word.lean ====
section
/-! DEFINITION. The machine's word and field types (spec/00_scope.md R8, R10). -/

namespace Sys2Proof

/-- A register, memory word, address, operand or result: 16 bits (R8 `XLEN`, address width). -/
abbrev Word := BitVec 16

/-- A 3-bit field DA, AA or BA: a register number 0 to 7, a raw immediate, or half of a branch
displacement (30_encoding.md R71, R78, R79, R221). -/
abbrev Field3 := BitVec 3

/-- A 4-bit function-select code (R8 `FS`). -/
abbrev FsCode := BitVec 4

end Sys2Proof
end

