-- ==== Sys2Proof/Config.lean ====
section
/-! DEFINITION. The two parameters the spec leaves open (spec/00_scope.md R9, 92_eei_decisions.md D1 and
D3). Each takes both of its values in the model; the spec's default is the value at reset. -/

namespace Sys2Proof

/-- `FS15_VARIANT`: what function-select code 15 does (46_system.md R260). -/
inductive Fs15Variant where
  /-- Code 15 ends the run and its result is operand A (R261). The spec's default. -/
  | halt
  /-- Code 15 hands the host a dump and its result is the current `x[DA]` (R262). -/
  | dump
deriving DecidableEq, Repr

/-- `BRANCH_SIGN_RULE`: when the branch displacement is sign-extended (45_control_transfer.md R222). -/
inductive BranchSignRule where
  /-- When DA's top bit is set, DA >= 4. The spec's default. -/
  | topBit
  /-- When DA > 4. -/
  | gt4
deriving DecidableEq, Repr

/-- One choice of both open parameters. -/
structure Config where
  fs15Variant : Fs15Variant
  branchSignRule : BranchSignRule
deriving DecidableEq, Repr

/-- The spec's defaults (92_eei_decisions.md: `halt` and `top_bit`). -/
def Config.specDefault : Config := { fs15Variant := .halt, branchSignRule := .topBit }

end Sys2Proof
end

