-- ==== Sys2Proof/Syntax.lean ====
section
/-! DEFINITION. The instructions, one constructor per row of spec/opcode_table.json (30_encoding.md R80),
their mnemonics, the pseudo-instructions (R85) and the lines of an image file (70_reset_and_hazards.md R338).

Operands are the fields the table names, all 3 bits wide: `rd` = DA, `ra` = AA, `rb` or `k` = BA, and for
a branch `offHi` = DA and `offLo` = BA (R84). Bits the machine ignores (R81) are no operand; the one
field beyond the table is ST.HALT's DA, which the function unit reads under `FS15_VARIANT = dump`
(44_load_store.md R210). DEDUCED, safe: log entry 7. -/

namespace Sys2Proof

/-- The 68 instructions of the opcode map (R80). -/
inductive Instr where
  /-- MOVA (rule R150). -/
  | mova (rd ra rb : Field3)
  /-- INC (rule R151). -/
  | inc (rd ra rb : Field3)
  /-- ADD (rule R152). -/
  | add (rd ra rb : Field3)
  /-- ADD1 (rule R153). -/
  | add1 (rd ra rb : Field3)
  /-- SUB1 (rule R154). -/
  | sub1 (rd ra rb : Field3)
  /-- SUB (rule R155). -/
  | sub (rd ra rb : Field3)
  /-- DEC (rule R156). -/
  | dec (rd ra rb : Field3)
  /-- MOVA2 (rule R157). -/
  | mova2 (rd ra rb : Field3)
  /-- AND (rule R158). -/
  | and (rd ra rb : Field3)
  /-- OR (rule R159). -/
  | or (rd ra rb : Field3)
  /-- XOR (rule R160). -/
  | xor (rd ra rb : Field3)
  /-- NOT (rule R161). -/
  | not (rd ra rb : Field3)
  /-- MOVB (rule R162). -/
  | movb (rd ra rb : Field3)
  /-- SHR (rule R163). -/
  | shr (rd ra rb : Field3)
  /-- SHL (rule R164). -/
  | shl (rd ra rb : Field3)
  /-- HALT (rule R165). -/
  | halt (rd ra rb : Field3)
  /-- MOVAI (rule R170). -/
  | movai (rd ra k : Field3)
  /-- INCI (rule R171). -/
  | inci (rd ra k : Field3)
  /-- ADDI (rule R172). -/
  | addi (rd ra k : Field3)
  /-- ADD1I (rule R173). -/
  | add1i (rd ra k : Field3)
  /-- SUB1I (rule R174). -/
  | sub1i (rd ra k : Field3)
  /-- SUBI (rule R175). -/
  | subi (rd ra k : Field3)
  /-- DECI (rule R176). -/
  | deci (rd ra k : Field3)
  /-- MOVA2I (rule R177). -/
  | mova2i (rd ra k : Field3)
  /-- ANDI (rule R178). -/
  | andi (rd ra k : Field3)
  /-- ORI (rule R179). -/
  | ori (rd ra k : Field3)
  /-- XORI (rule R180). -/
  | xori (rd ra k : Field3)
  /-- NOTI (rule R181). -/
  | noti (rd ra k : Field3)
  /-- MOVBI (rule R182). -/
  | movbi (rd ra k : Field3)
  /-- SHRI (rule R183). -/
  | shri (rd ra k : Field3)
  /-- SHLI (rule R184). -/
  | shli (rd ra k : Field3)
  /-- HALTI (rule R185). -/
  | halti (rd ra k : Field3)
  /-- LD (rule R193). -/
  | ld (rd ra : Field3)
  /-- LD.MB (rule R194). -/
  | ldMb (rd ra : Field3)
  /-- ST.MOVA (rule R195). -/
  | stMova (ra k : Field3)
  /-- ST.INC (rule R196). -/
  | stInc (ra k : Field3)
  /-- ST.ADD (rule R197). -/
  | stAdd (ra k : Field3)
  /-- ST.ADD1 (rule R198). -/
  | stAdd1 (ra k : Field3)
  /-- ST.SUB1 (rule R199). -/
  | stSub1 (ra k : Field3)
  /-- ST.SUB (rule R200). -/
  | stSub (ra k : Field3)
  /-- ST.DEC (rule R201). -/
  | stDec (ra k : Field3)
  /-- ST.MOVA2 (rule R202). -/
  | stMova2 (ra k : Field3)
  /-- ST.AND (rule R203). -/
  | stAnd (ra k : Field3)
  /-- ST.OR (rule R204). -/
  | stOr (ra k : Field3)
  /-- ST.XOR (rule R205). -/
  | stXor (ra k : Field3)
  /-- ST.NOT (rule R206). -/
  | stNot (ra k : Field3)
  /-- ST.MOVB (rule R207). -/
  | stMovb (ra k : Field3)
  /-- ST.SHR (rule R208). -/
  | stShr (ra k : Field3)
  /-- ST.SHL (rule R209). -/
  | stShl (ra k : Field3)
  /-- ST.HALT (rule R210). -/
  | stHalt (rd ra k : Field3)
  /-- ST.NF (rule R211). -/
  | stNf (ra k : Field3)
  /-- BRZ.MOVA (rule R229). -/
  | brzMova (offHi ra offLo : Field3)
  /-- BRZ.ADD (rule R230). -/
  | brzAdd (offHi ra offLo : Field3)
  /-- BRZ.SUB1 (rule R231). -/
  | brzSub1 (offHi ra offLo : Field3)
  /-- BRZ.DEC (rule R232). -/
  | brzDec (offHi ra offLo : Field3)
  /-- BRZ.AND (rule R233). -/
  | brzAnd (offHi ra offLo : Field3)
  /-- BRZ.XOR (rule R234). -/
  | brzXor (offHi ra offLo : Field3)
  /-- BRZ.MOVB (rule R235). -/
  | brzMovb (offHi ra offLo : Field3)
  /-- BRZ.SHL (rule R236). -/
  | brzShl (offHi ra offLo : Field3)
  /-- BRN.MOVA (rule R237). -/
  | brnMova (offHi ra offLo : Field3)
  /-- BRN.ADD (rule R238). -/
  | brnAdd (offHi ra offLo : Field3)
  /-- BRN.SUB1 (rule R239). -/
  | brnSub1 (offHi ra offLo : Field3)
  /-- BRN.DEC (rule R240). -/
  | brnDec (offHi ra offLo : Field3)
  /-- BRN.AND (rule R241). -/
  | brnAnd (offHi ra offLo : Field3)
  /-- BRN.XOR (rule R242). -/
  | brnXor (offHi ra offLo : Field3)
  /-- BRN.MOVB (rule R243). -/
  | brnMovb (offHi ra offLo : Field3)
  /-- BRN.SHL (rule R244). -/
  | brnShl (offHi ra offLo : Field3)
  /-- JMP (rule R228). -/
  | jmp (ra : Field3)
deriving DecidableEq, Repr

/-- The mnemonic of an instruction, letter for letter as spec/opcode_table.json has it. -/
def Instr.mnemonic : Instr → String
  | .mova _ _ _ => "MOVA"
  | .inc _ _ _ => "INC"
  | .add _ _ _ => "ADD"
  | .add1 _ _ _ => "ADD1"
  | .sub1 _ _ _ => "SUB1"
  | .sub _ _ _ => "SUB"
  | .dec _ _ _ => "DEC"
  | .mova2 _ _ _ => "MOVA2"
  | .and _ _ _ => "AND"
  | .or _ _ _ => "OR"
  | .xor _ _ _ => "XOR"
  | .not _ _ _ => "NOT"
  | .movb _ _ _ => "MOVB"
  | .shr _ _ _ => "SHR"
  | .shl _ _ _ => "SHL"
  | .halt _ _ _ => "HALT"
  | .movai _ _ _ => "MOVAI"
  | .inci _ _ _ => "INCI"
  | .addi _ _ _ => "ADDI"
  | .add1i _ _ _ => "ADD1I"
  | .sub1i _ _ _ => "SUB1I"
  | .subi _ _ _ => "SUBI"
  | .deci _ _ _ => "DECI"
  | .mova2i _ _ _ => "MOVA2I"
  | .andi _ _ _ => "ANDI"
  | .ori _ _ _ => "ORI"
  | .xori _ _ _ => "XORI"
  | .noti _ _ _ => "NOTI"
  | .movbi _ _ _ => "MOVBI"
  | .shri _ _ _ => "SHRI"
  | .shli _ _ _ => "SHLI"
  | .halti _ _ _ => "HALTI"
  | .ld _ _ => "LD"
  | .ldMb _ _ => "LD.MB"
  | .stMova _ _ => "ST.MOVA"
  | .stInc _ _ => "ST.INC"
  | .stAdd _ _ => "ST.ADD"
  | .stAdd1 _ _ => "ST.ADD1"
  | .stSub1 _ _ => "ST.SUB1"
  | .stSub _ _ => "ST.SUB"
  | .stDec _ _ => "ST.DEC"
  | .stMova2 _ _ => "ST.MOVA2"
  | .stAnd _ _ => "ST.AND"
  | .stOr _ _ => "ST.OR"
  | .stXor _ _ => "ST.XOR"
  | .stNot _ _ => "ST.NOT"
  | .stMovb _ _ => "ST.MOVB"
  | .stShr _ _ => "ST.SHR"
  | .stShl _ _ => "ST.SHL"
  | .stHalt _ _ _ => "ST.HALT"
  | .stNf _ _ => "ST.NF"
  | .brzMova _ _ _ => "BRZ.MOVA"
  | .brzAdd _ _ _ => "BRZ.ADD"
  | .brzSub1 _ _ _ => "BRZ.SUB1"
  | .brzDec _ _ _ => "BRZ.DEC"
  | .brzAnd _ _ _ => "BRZ.AND"
  | .brzXor _ _ _ => "BRZ.XOR"
  | .brzMovb _ _ _ => "BRZ.MOVB"
  | .brzShl _ _ _ => "BRZ.SHL"
  | .brnMova _ _ _ => "BRN.MOVA"
  | .brnAdd _ _ _ => "BRN.ADD"
  | .brnSub1 _ _ _ => "BRN.SUB1"
  | .brnDec _ _ _ => "BRN.DEC"
  | .brnAnd _ _ _ => "BRN.AND"
  | .brnXor _ _ _ => "BRN.XOR"
  | .brnMovb _ _ _ => "BRN.MOVB"
  | .brnShl _ _ _ => "BRN.SHL"
  | .jmp _ => "JMP"

/-! ## Pseudo-instructions (R85), as the core instructions they stand for -/

/-- `NOP` = `MOVA R0, R0, R0`. -/
def Instr.nop : Instr := .mova 0 0 0
/-- `MOV Rd, Ra` = `MOVA Rd, Ra, R0`. -/
def Instr.mov (rd ra : Field3) : Instr := .mova rd ra 0
/-- `LDI Rd, #k` = `MOVBI Rd, R0, #k`. -/
def Instr.ldi (rd k : Field3) : Instr := .movbi rd 0 k
/-- `CLR Rd` = `MOVBI Rd, R0, #0`. -/
def Instr.clr (rd : Field3) : Instr := .movbi rd 0 0
/-- `ST (Ra), #k` = `ST.MOVA (Ra), #k`. -/
def Instr.st (ra k : Field3) : Instr := .stMova ra k
/-- `BRZ Ra, off` = `BRZ.MOVA Ra, off`. -/
def Instr.brz (offHi ra offLo : Field3) : Instr := .brzMova offHi ra offLo
/-- `BRN Ra, off` = `BRN.MOVA Ra, off`. -/
def Instr.brn (offHi ra offLo : Field3) : Instr := .brnMova offHi ra offLo
/-- `HLT` = `HALT R0, R0, R0`. -/
def Instr.hlt : Instr := .halt 0 0 0
/-- `BR off`, `off` a multiple of 8, = `BRZ.AND R0, off`; `offHi` is `off / 8`. -/
def Instr.br (offHi : Field3) : Instr := .brzAnd offHi 0 0

/-! ## Image files -/

/-- One line of an image file as the loader sees it (R338, R339): a hexadecimal literal, already read
as a number (reading the text is out of scope, 00_scope.md R5), or a line that is no such literal. -/
inductive ImageLine where
  | literal (value : Nat)
  | notHex
deriving DecidableEq, Repr

end Sys2Proof
end

