-- ==== Sys2Proof/WellFormed.lean ====
section
/-! DEFINITION. What is checked of the inputs that can be ill formed: a branch displacement the assembler is
given (spec/30_encoding.md R84) and an image file (70_reset_and_hazards.md R339). An instruction cannot
be: its operands are 3-bit fields, every value of which is legal (R76, R82). -/

namespace Sys2Proof

/-- Every instruction is well formed: "every 16-bit value decodes to *some* valid control bundle" (R76),
and no operand field has a reserved value (R82). -/
def Instr.wellFormed : Instr → Bool := fun _ => true

/-- The displacement lies "in the range the offset rule can produce" (R84): -32 to +31 under `top_bit`,
-24 to +39 under `gt4`. -/
def displacementWellFormed (rule : BranchSignRule) (off : Int) : Bool :=
  match rule with
  | .topBit => -32 ≤ off && off ≤ 31
  | .gt4 => -24 ≤ off && off ≤ 39

/-- The line is a hexadecimal literal that fits in a word (R339). -/
def ImageLine.wellFormed : ImageLine → Bool
  | .literal value => value ≤ 0xFFFF
  | .notHex => false

/-- The image has at most 65536 lines and every line is well formed (R339). -/
def imageWellFormed (lines : List ImageLine) : Bool :=
  lines.length ≤ 65536 && lines.all ImageLine.wellFormed

end Sys2Proof
end

