-- ==== Sys2Proof/Decode.lean ====
section
/-! DEFINITION. The instruction decoder (spec/30_encoding.md): the control-signal bundle of a word (R71 to
R74), the instruction a word is (R80), the opcode map as rows of mask and pattern (R80), and the encoder
(R84). Every one of the 65536 words decodes (R76); the only bits rejected are those of an instruction
longer than one word, which does not exist (R70, R83). -/

namespace Sys2Proof

/-! ## Fields of a word (R70, R71) -/

/-- DA, `w[8:6]`. -/
def fieldDa (w : Word) : Field3 := w.extractLsb' 6 3
/-- AA, `w[5:3]`. -/
def fieldAa (w : Word) : Field3 := w.extractLsb' 3 3
/-- BA, `w[2:0]`. -/
def fieldBa (w : Word) : Field3 := w.extractLsb' 0 3
/-- `w[12:9]`, the function-select bits as they stand in the word. -/
def fieldFs (w : Word) : FsCode := w.extractLsb' 9 4
/-- `w[15:13]`, the class bits with MD (R75). -/
def fieldClass (w : Word) : BitVec 3 := w.extractLsb' 13 3

/-! ## The control-signal bundle (R71 to R74) -/

/-- The decoder's outputs (R74, 40_cycle.md R114). Combinational: never part of the state (10_state.md R30). -/
structure Bundle where
  da : Field3
  aa : Field3
  ba : Field3
  fs : FsCode
  mb : Bool
  md : Bool
  rw : Bool
  mw : Bool
  pl : Bool
  jb : Bool
  bc : Bool
deriving DecidableEq, Repr

/-- FS: `w[12:9]`, with its lowest bit forced to 0 when PL = 1 (R74). -/
def selectFs (pl : Bool) (w : Word) : FsCode :=
  if pl then w.extractLsb' 10 3 ++ 0#1 else fieldFs w

/-- The decoder: the bundle of a word (R71 to R74). -/
def bundle (w : Word) : Bundle :=
  let mb := w.getLsbD 15
  let w14 := w.getLsbD 14
  let md := w.getLsbD 13
  let pl := mb && w14
  { da := fieldDa w, aa := fieldAa w, ba := fieldBa w
    fs := selectFs pl w
    mb := mb, md := md
    rw := !w14, mw := !mb && w14, pl := pl
    jb := md, bc := w.getLsbD 9 }

/-! ## From a word to its instruction (R80) -/

/-- Class 000: the register ALU instruction with FS = f, f at most 15. -/
def decodeRegister (f : Nat) (d a b : Field3) : Instr :=
  match f with
  | 0 => .mova d a b
  | 1 => .inc d a b
  | 2 => .add d a b
  | 3 => .add1 d a b
  | 4 => .sub1 d a b
  | 5 => .sub d a b
  | 6 => .dec d a b
  | 7 => .mova2 d a b
  | 8 => .and d a b
  | 9 => .or d a b
  | 10 => .xor d a b
  | 11 => .not d a b
  | 12 => .movb d a b
  | 13 => .shr d a b
  | 14 => .shl d a b
  | _ => .halt d a b

/-- Class 100: the immediate ALU instruction with FS = f, f at most 15. -/
def decodeImmediate (f : Nat) (d a b : Field3) : Instr :=
  match f with
  | 0 => .movai d a b
  | 1 => .inci d a b
  | 2 => .addi d a b
  | 3 => .add1i d a b
  | 4 => .sub1i d a b
  | 5 => .subi d a b
  | 6 => .deci d a b
  | 7 => .mova2i d a b
  | 8 => .andi d a b
  | 9 => .ori d a b
  | 10 => .xori d a b
  | 11 => .noti d a b
  | 12 => .movbi d a b
  | 13 => .shri d a b
  | 14 => .shli d a b
  | _ => .halti d a b

/-- Class 010: the store with flags from code f, f at most 15; only ST.HALT has a use for DA. -/
def decodeStore (f : Nat) (d a b : Field3) : Instr :=
  match f with
  | 0 => .stMova a b
  | 1 => .stInc a b
  | 2 => .stAdd a b
  | 3 => .stAdd1 a b
  | 4 => .stSub1 a b
  | 5 => .stSub a b
  | 6 => .stDec a b
  | 7 => .stMova2 a b
  | 8 => .stAnd a b
  | 9 => .stOr a b
  | 10 => .stXor a b
  | 11 => .stNot a b
  | 12 => .stMovb a b
  | 13 => .stShr a b
  | 14 => .stShl a b
  | _ => .stHalt d a b

/-- Class 110 with BC = 0: the branch whose flag operation is code 2h, h at most 7. -/
def decodeBrz (h : Nat) (d a b : Field3) : Instr :=
  match h with
  | 0 => .brzMova d a b
  | 1 => .brzAdd d a b
  | 2 => .brzSub1 d a b
  | 3 => .brzDec d a b
  | 4 => .brzAnd d a b
  | 5 => .brzXor d a b
  | 6 => .brzMovb d a b
  | _ => .brzShl d a b

/-- Class 110 with BC = 1: the branch whose flag operation is code 2h, h at most 7. -/
def decodeBrn (h : Nat) (d a b : Field3) : Instr :=
  match h with
  | 0 => .brnMova d a b
  | 1 => .brnAdd d a b
  | 2 => .brnSub1 d a b
  | 3 => .brnDec d a b
  | 4 => .brnAnd d a b
  | 5 => .brnXor d a b
  | 6 => .brnMovb d a b
  | _ => .brnShl d a b

/-- The instruction a word is. Total: "every 16-bit value decodes" (R76). The class bits pick the family,
`w[12:9]` the member; LD, LD.MB, ST.NF and JMP ignore `w[12:9]` (R80, R81). -/
def decode (w : Word) : Instr :=
  let d := fieldDa w
  let a := fieldAa w
  let b := fieldBa w
  match (fieldClass w).toNat with
  | 0 => decodeRegister (fieldFs w).toNat d a b
  | 1 => .ld d a
  | 2 => decodeStore (fieldFs w).toNat d a b
  | 3 => .stNf a b
  | 4 => decodeImmediate (fieldFs w).toNat d a b
  | 5 => .ldMb d a
  | 6 =>
    if w.getLsbD 9 then decodeBrn (w.extractLsb' 10 3).toNat d a b
    else decodeBrz (w.extractLsb' 10 3).toNat d a b
  | _ => .jmp a

/-- Why a string of bits is no instruction. -/
inductive DecodeError where
  /-- More bits than one word: "There is no other length and no other format" (R70). Safe: no such
  instruction exists, and the machine fetches whole words only. -/
  | longerThanOneWord
deriving DecidableEq, Repr

/-- The instruction word whose low `nbits` bits are those of `w` and whose other bits are 0. -/
def wordOfBits (nbits w : Nat) : Word := BitVec.ofNat 16 (w % 2 ^ nbits)

/-- The decoder on a string of bits, rejecting by name what is longer than one word. DESIGN CHOICE, safe:
log entry 12. -/
def decodeBits (nbits w : Nat) : Except DecodeError Instr :=
  if nbits ≤ 16 then .ok (decode (wordOfBits nbits w)) else .error .longerThanOneWord

/-- `decodeBits` as the host asks for it. -/
def decodeTableWord (nbits w : Nat) : Option Instr :=
  match decodeBits nbits w with
  | .ok i => some i
  | .error _ => none

/-! ## The encoder (R80, R84) -/

/-- The word with class bits `cls`, `w[12:9] = f` and the three 3-bit fields: the layout of R70. -/
def assemble (cls : BitVec 3) (f : FsCode) (d a b : Field3) : Word :=
  (((cls ++ f) ++ d) ++ a) ++ b

/-- The word of an instruction (R84); a bit the instruction ignores is 0. -/
def encode : Instr → Word
  | .mova d a b => assemble 0b000 0b0000 d a b
  | .inc d a b => assemble 0b000 0b0001 d a b
  | .add d a b => assemble 0b000 0b0010 d a b
  | .add1 d a b => assemble 0b000 0b0011 d a b
  | .sub1 d a b => assemble 0b000 0b0100 d a b
  | .sub d a b => assemble 0b000 0b0101 d a b
  | .dec d a b => assemble 0b000 0b0110 d a b
  | .mova2 d a b => assemble 0b000 0b0111 d a b
  | .and d a b => assemble 0b000 0b1000 d a b
  | .or d a b => assemble 0b000 0b1001 d a b
  | .xor d a b => assemble 0b000 0b1010 d a b
  | .not d a b => assemble 0b000 0b1011 d a b
  | .movb d a b => assemble 0b000 0b1100 d a b
  | .shr d a b => assemble 0b000 0b1101 d a b
  | .shl d a b => assemble 0b000 0b1110 d a b
  | .halt d a b => assemble 0b000 0b1111 d a b
  | .movai d a k => assemble 0b100 0b0000 d a k
  | .inci d a k => assemble 0b100 0b0001 d a k
  | .addi d a k => assemble 0b100 0b0010 d a k
  | .add1i d a k => assemble 0b100 0b0011 d a k
  | .sub1i d a k => assemble 0b100 0b0100 d a k
  | .subi d a k => assemble 0b100 0b0101 d a k
  | .deci d a k => assemble 0b100 0b0110 d a k
  | .mova2i d a k => assemble 0b100 0b0111 d a k
  | .andi d a k => assemble 0b100 0b1000 d a k
  | .ori d a k => assemble 0b100 0b1001 d a k
  | .xori d a k => assemble 0b100 0b1010 d a k
  | .noti d a k => assemble 0b100 0b1011 d a k
  | .movbi d a k => assemble 0b100 0b1100 d a k
  | .shri d a k => assemble 0b100 0b1101 d a k
  | .shli d a k => assemble 0b100 0b1110 d a k
  | .halti d a k => assemble 0b100 0b1111 d a k
  | .ld d a => assemble 0b001 0b0000 d a 0
  | .ldMb d a => assemble 0b101 0b0000 d a 0
  | .stMova a k => assemble 0b010 0b0000 0 a k
  | .stInc a k => assemble 0b010 0b0001 0 a k
  | .stAdd a k => assemble 0b010 0b0010 0 a k
  | .stAdd1 a k => assemble 0b010 0b0011 0 a k
  | .stSub1 a k => assemble 0b010 0b0100 0 a k
  | .stSub a k => assemble 0b010 0b0101 0 a k
  | .stDec a k => assemble 0b010 0b0110 0 a k
  | .stMova2 a k => assemble 0b010 0b0111 0 a k
  | .stAnd a k => assemble 0b010 0b1000 0 a k
  | .stOr a k => assemble 0b010 0b1001 0 a k
  | .stXor a k => assemble 0b010 0b1010 0 a k
  | .stNot a k => assemble 0b010 0b1011 0 a k
  | .stMovb a k => assemble 0b010 0b1100 0 a k
  | .stShr a k => assemble 0b010 0b1101 0 a k
  | .stShl a k => assemble 0b010 0b1110 0 a k
  | .stHalt d a k => assemble 0b010 0b1111 d a k
  | .stNf a k => assemble 0b011 0b0000 0 a k
  | .brzMova h a l => assemble 0b110 0b0000 h a l
  | .brzAdd h a l => assemble 0b110 0b0010 h a l
  | .brzSub1 h a l => assemble 0b110 0b0100 h a l
  | .brzDec h a l => assemble 0b110 0b0110 h a l
  | .brzAnd h a l => assemble 0b110 0b1000 h a l
  | .brzXor h a l => assemble 0b110 0b1010 h a l
  | .brzMovb h a l => assemble 0b110 0b1100 h a l
  | .brzShl h a l => assemble 0b110 0b1110 h a l
  | .brnMova h a l => assemble 0b110 0b0001 h a l
  | .brnAdd h a l => assemble 0b110 0b0011 h a l
  | .brnSub1 h a l => assemble 0b110 0b0101 h a l
  | .brnDec h a l => assemble 0b110 0b0111 h a l
  | .brnAnd h a l => assemble 0b110 0b1001 h a l
  | .brnXor h a l => assemble 0b110 0b1011 h a l
  | .brnMovb h a l => assemble 0b110 0b1101 h a l
  | .brnShl h a l => assemble 0b110 0b1111 h a l
  | .jmp a => assemble 0b111 0b0000 0 a 0

/-! ## Branch displacements (R84) -/

/-- `((off >> 3) & 7)`, the DA field of a branch with displacement `off`. -/
def displacementHi (off : Int) : Field3 := BitVec.ofInt 3 (off / 8)
/-- `off & 7`, the BA field of a branch with displacement `off`. -/
def displacementLo (off : Int) : Field3 := BitVec.ofInt 3 off

/-! ## The opcode map as mask and pattern (R80) -/

/-- One entry of the opcode map: the words `w` with `w & mask = pattern`. -/
structure OpcodeRow where
  mnemonic : String
  mask : Word
  pattern : Word
deriving DecidableEq, Repr

/-- The word belongs to the entry. -/
def OpcodeRow.covers (r : OpcodeRow) (w : Word) : Bool := w &&& r.mask == r.pattern

/-- The entries of class 000 and LD. -/
def opcodeRowsRegister : List OpcodeRow :=
  [⟨"MOVA", 0xFE00, 0x0000⟩,
   ⟨"INC", 0xFE00, 0x0200⟩,
   ⟨"ADD", 0xFE00, 0x0400⟩,
   ⟨"ADD1", 0xFE00, 0x0600⟩,
   ⟨"SUB1", 0xFE00, 0x0800⟩,
   ⟨"SUB", 0xFE00, 0x0A00⟩,
   ⟨"DEC", 0xFE00, 0x0C00⟩,
   ⟨"MOVA2", 0xFE00, 0x0E00⟩,
   ⟨"AND", 0xFE00, 0x1000⟩,
   ⟨"OR", 0xFE00, 0x1200⟩,
   ⟨"XOR", 0xFE00, 0x1400⟩,
   ⟨"NOT", 0xFE00, 0x1600⟩,
   ⟨"MOVB", 0xFE00, 0x1800⟩,
   ⟨"SHR", 0xFE00, 0x1A00⟩,
   ⟨"SHL", 0xFE00, 0x1C00⟩,
   ⟨"HALT", 0xFE00, 0x1E00⟩,
   ⟨"LD", 0xE000, 0x2000⟩]

/-- The entries of class 100 and LD.MB. -/
def opcodeRowsImmediate : List OpcodeRow :=
  [⟨"MOVAI", 0xFE00, 0x8000⟩,
   ⟨"INCI", 0xFE00, 0x8200⟩,
   ⟨"ADDI", 0xFE00, 0x8400⟩,
   ⟨"ADD1I", 0xFE00, 0x8600⟩,
   ⟨"SUB1I", 0xFE00, 0x8800⟩,
   ⟨"SUBI", 0xFE00, 0x8A00⟩,
   ⟨"DECI", 0xFE00, 0x8C00⟩,
   ⟨"MOVA2I", 0xFE00, 0x8E00⟩,
   ⟨"ANDI", 0xFE00, 0x9000⟩,
   ⟨"ORI", 0xFE00, 0x9200⟩,
   ⟨"XORI", 0xFE00, 0x9400⟩,
   ⟨"NOTI", 0xFE00, 0x9600⟩,
   ⟨"MOVBI", 0xFE00, 0x9800⟩,
   ⟨"SHRI", 0xFE00, 0x9A00⟩,
   ⟨"SHLI", 0xFE00, 0x9C00⟩,
   ⟨"HALTI", 0xFE00, 0x9E00⟩,
   ⟨"LD.MB", 0xE000, 0xA000⟩]

/-- The entries of class 01. -/
def opcodeRowsStore : List OpcodeRow :=
  [⟨"ST.MOVA", 0xFE00, 0x4000⟩,
   ⟨"ST.INC", 0xFE00, 0x4200⟩,
   ⟨"ST.ADD", 0xFE00, 0x4400⟩,
   ⟨"ST.ADD1", 0xFE00, 0x4600⟩,
   ⟨"ST.SUB1", 0xFE00, 0x4800⟩,
   ⟨"ST.SUB", 0xFE00, 0x4A00⟩,
   ⟨"ST.DEC", 0xFE00, 0x4C00⟩,
   ⟨"ST.MOVA2", 0xFE00, 0x4E00⟩,
   ⟨"ST.AND", 0xFE00, 0x5000⟩,
   ⟨"ST.OR", 0xFE00, 0x5200⟩,
   ⟨"ST.XOR", 0xFE00, 0x5400⟩,
   ⟨"ST.NOT", 0xFE00, 0x5600⟩,
   ⟨"ST.MOVB", 0xFE00, 0x5800⟩,
   ⟨"ST.SHR", 0xFE00, 0x5A00⟩,
   ⟨"ST.SHL", 0xFE00, 0x5C00⟩,
   ⟨"ST.HALT", 0xFE00, 0x5E00⟩,
   ⟨"ST.NF", 0xE000, 0x6000⟩]

/-- The entries of class 11. -/
def opcodeRowsControl : List OpcodeRow :=
  [⟨"BRZ.MOVA", 0xFE00, 0xC000⟩,
   ⟨"BRZ.ADD", 0xFE00, 0xC400⟩,
   ⟨"BRZ.SUB1", 0xFE00, 0xC800⟩,
   ⟨"BRZ.DEC", 0xFE00, 0xCC00⟩,
   ⟨"BRZ.AND", 0xFE00, 0xD000⟩,
   ⟨"BRZ.XOR", 0xFE00, 0xD400⟩,
   ⟨"BRZ.MOVB", 0xFE00, 0xD800⟩,
   ⟨"BRZ.SHL", 0xFE00, 0xDC00⟩,
   ⟨"BRN.MOVA", 0xFE00, 0xC200⟩,
   ⟨"BRN.ADD", 0xFE00, 0xC600⟩,
   ⟨"BRN.SUB1", 0xFE00, 0xCA00⟩,
   ⟨"BRN.DEC", 0xFE00, 0xCE00⟩,
   ⟨"BRN.AND", 0xFE00, 0xD200⟩,
   ⟨"BRN.XOR", 0xFE00, 0xD600⟩,
   ⟨"BRN.MOVB", 0xFE00, 0xDA00⟩,
   ⟨"BRN.SHL", 0xFE00, 0xDE00⟩,
   ⟨"JMP", 0xE000, 0xE000⟩]

/-- The whole opcode map: 68 entries (R80). -/
def opcodeMap : List OpcodeRow :=
  opcodeRowsRegister ++ opcodeRowsImmediate ++ opcodeRowsStore ++ opcodeRowsControl

end Sys2Proof
end

