-- ==== Sys2Proof/Machine/State.lean ====
section
/-! DEFINITION. The machine's whole state (spec/10_state.md R20, R41, R42), the state right after reset
(70_reset_and_hazards.md R330), and the reasons a step can stop (there are none: 60_exceptions.md R300). -/

namespace Sys2Proof.Machine

/-- One listed word of a memory: its word address and its value. The word is the smallest unit any access
moves (20_memory.md R53), so memory is held by words. DEDUCED, safe: log entry 2. -/
abbrev WordCell := Nat × Word

/-- A memory of 65536 words (10_state.md R40): the words that differ from `unlistedWord`, addresses
strictly rising (`Memory.wf`). -/
abbrev Memory := List WordCell

/-- What an address with no entry reads as: "words beyond N remain at their initial zero value" (R330,
R333). -/
def unlistedWord : Word := 0x0000

/-- The architectural state (R20), and in `config` the values of the two open parameters (log entry 1). -/
structure State where
  /-- R0 to R7 (R22). -/
  x : Vector Word 8
  /-- Program counter: from a fetch to the next cycle's controller phase, the address of the
  instruction fetched (R26, R27). -/
  pc : Word
  /-- Instruction register: the word last fetched (R29). -/
  ir : Word
  /-- Negative flag N (R31). -/
  n : Bool
  /-- Zero flag Z (R31). -/
  z : Bool
  /-- Carry flag C, always 0 (R34). DEDUCED, safe: log entry 11. -/
  c : Bool
  /-- Overflow flag V, always 0 (R34). -/
  v : Bool
  /-- The one-shot reset flag (R38). -/
  resetFlag : Bool
  /-- The run flag (R38). -/
  running : Bool
  /-- Instruction memory IM (R40). -/
  im : Memory
  /-- Data memory DM (R40). -/
  dm : Memory
  /-- `FS15_VARIANT` and `BRANCH_SIGN_RULE` (00_scope.md R9); no step changes it. The model's own field:
  DESIGN CHOICE, unsafe: log entry 1. -/
  config : Config
deriving DecidableEq, Repr

/-- The launch state with empty images (R330) and the default parameters (R9). The zeros follow the spec's
own decisions D7 to D10 (log entry 9). -/
def State.reset : State :=
  { x := Vector.replicate 8 0x0000
    pc := 0x0000
    ir := 0x0000
    n := false
    z := false
    c := false
    v := false
    resetFlag := true
    running := true
    im := []
    dm := []
    config := Config.specDefault }

/-- Faults: none. "There are no runtime faults from the instruction set itself" (60_exceptions.md R300),
so the type has no constructor and no step can fault. Safe. -/
inductive Fault where
deriving DecidableEq, Repr

/-- Refusals of a step. -/
inductive Refusal where
  /-- An instruction without a meaning yet, by its mnemonic. Raised by no arm of `exec`: all 68
  instructions are modelled. Safe. -/
  | notModelled (mnemonic : String)
deriving DecidableEq, Repr

/-- The outcome of one step. -/
abbrev Result := Host.Outcome State Fault Refusal

end Sys2Proof.Machine
end

