-- ==== Sys2Proof/Machine/Ops.lean ====
section
/-! DEFINITION. The named operations on registers and memories (spec/10_state.md, 20_memory.md), the run
state and the packed status word. No exception entry or return stands here because the machine has
none (60_exceptions.md R300, R303, R304), and no interrupt (R301). -/

namespace Sys2Proof.Machine

/-! ## General registers (R22 to R24) -/

/-- `x[i]`. -/
def State.reg (s : State) (i : Field3) : Word := s.x[i.toNat]'i.isLt

/-- `x[i] <- w`. No register is hard-wired: R0 is written like the others (R22). -/
def State.setReg (s : State) (i : Field3) (w : Word) : State :=
  { s with x := s.x.set i.toNat w i.isLt }

/-! ## One memory (R40) -/

/-- The word at an address: its first entry, or `unlistedWord`. -/
def Memory.read : Memory → Word → Word
  | [], _ => unlistedWord
  | (k, w) :: m, a => if k = a.toNat then w else Memory.read m a

/-- Every entry of an address removed, so that it reads as `unlistedWord`. -/
def Memory.erase : Memory → Word → Memory
  | [], _ => []
  | (k, w) :: m, a => if k = a.toNat then Memory.erase m a else (k, w) :: Memory.erase m a

/-- An entry put before the first entry of a higher address. -/
def Memory.insert : Memory → Word → Word → Memory
  | [], a, w => [(a.toNat, w)]
  | (k, u) :: m, a, w =>
    if a.toNat < k then (a.toNat, w) :: (k, u) :: m else (k, u) :: Memory.insert m a w

/-- The memory with one word changed, in canonical form again: `unlistedWord` is not listed. -/
def Memory.write (m : Memory) (a w : Word) : Memory :=
  if w = unlistedWord then Memory.erase m a else Memory.insert (Memory.erase m a) a w

/-- The entries from `low` up are in canonical form: addresses strictly rising, below 65536, and no
entry equal to what an unlisted address reads as. -/
def Memory.wfFrom : Nat → Memory → Bool
  | _, [] => true
  | low, (k, w) :: m => low ≤ k && k < 65536 && w != unlistedWord && Memory.wfFrom (k + 1) m

/-- The canonical form of a memory. -/
def Memory.wf (m : Memory) : Bool := Memory.wfFrom 0 m

/-! ## The two address spaces (20_memory.md R50 to R52) -/

/-- `IFetch(a)`: the word of instruction memory at `a` (R51). -/
def State.readIM (s : State) (a : Word) : Word := s.im.read a

/-- `MemRead(a, 1)`: the word of data memory at `a` (R52). Every address exists (R56). -/
def State.readDM (s : State) (a : Word) : Word := s.dm.read a

/-- `MemWrite(a, 1, w)` (R52). -/
def State.writeDM (s : State) (a w : Word) : State := { s with dm := s.dm.write a w }

/-- A read of data memory whose value is discarded (JMP, ST.NF): "The discarded reads ... change no
state" (R57). -/
def State.discardRead (s : State) (_a : Word) : State := s

/-! ## Run state and status word -/

/-- The run state as the spec's enumeration (10_state.md R39). -/
inductive RunState where
  | awaitingReset
  | running
  | halted
deriving DecidableEq, Repr

/-- The run state two flags stand for (R39); none for the combination R39 calls unreachable. -/
def State.runState (s : State) : Option RunState :=
  match s.resetFlag, s.running with
  | true, true => some .awaitingReset
  | false, true => some .running
  | false, false => some .halted
  | true, false => none

/-- The packed status register: bit 0 = Z, bit 1 = N, bit 2 = C, bit 3 = V, bits 15:4 = 0 (R36). -/
def State.statusWord (s : State) : Word :=
  0#12 ++ BitVec.ofBool s.v ++ BitVec.ofBool s.c ++ BitVec.ofBool s.n ++ BitVec.ofBool s.z

/-- The state after the run flag is cleared (40_cycle.md R106). -/
def State.stop (s : State) : State := { s with running := false }

end Sys2Proof.Machine
end

