-- ==== Sys2Proof/Machine/Operands.lean ====
section
/-! DEFINITION. Operand forms (spec/30_encoding.md R78, R79, 44_load_store.md R190, R192) and the branch
displacement (45_control_transfer.md R221 to R223). -/

namespace Sys2Proof.Machine

/-- `zext_16` of a 3-bit field: the raw field as an unsigned value 0 to 7 (R78, R79). -/
def zext16 (k : Field3) : Word := k.setWidth 16

/-- Operand A, `x[AA]` (R78). -/
def operandA (s : State) (ra : Field3) : Word := s.reg ra

/-- Operand B of the register form, `x[BA]` (R78). -/
def operandReg (s : State) (rb : Field3) : Word := s.reg rb

/-- Operand B of the immediate form, the raw BA field (R78). -/
def operandImm (k : Field3) : Word := zext16 k

/-- The address of a data-memory access, `x[AA]`: register indirect, the only addressing mode (R190). -/
def effectiveAddress (s : State) (ra : Field3) : Word := s.reg ra

/-- The word a store writes: the raw BA field, never a register (R79, R192). -/
def storeData (k : Field3) : Word := zext16 k

/-- `ext(DA)`: whether the displacement is sign-extended (R222). -/
def signExtends (rule : BranchSignRule) (offHi : Field3) : Bool :=
  match rule with
  | .topBit => offHi.getLsbD 2
  | .gt4 => 4 < offHi.toNat

/-- `off(p)`: DA ++ BA in an 8-bit container, its upper three bits forced to 1 where `ext(DA)` holds
(R221, R222); read as a signed 8-bit integer. -/
def branchOffset (rule : BranchSignRule) (offHi offLo : Field3) : BitVec 8 :=
  let off8 : BitVec 8 := (offHi ++ offLo).setWidth 8
  if signExtends rule offHi then off8 ||| 0xE0#8 else off8

/-- The target of a taken branch at `q`: `q + sext_16(off)` modulo 2^16 (R223, R225). -/
def branchTarget (rule : BranchSignRule) (q : Word) (offHi offLo : Field3) : Word :=
  q + (branchOffset rule offHi offLo).signExtend 16

end Sys2Proof.Machine
end

