-- ==== Sys2Proof/Machine/Controller.lean ====
section
/-! DEFINITION. The branch/PC controller (spec/45_control_transfer.md R220 to R226) and the fetch
(40_cycle.md R102): phases 1 and 2 of a cycle. The controller reads the bundle of the PREVIOUS word,
still in `ir` (R224), and the flags and registers that word's own cycle left (R245). -/

namespace Sys2Proof.Machine

/-- The address of the next fetch: the five cases of R220, in their order of precedence. -/
def nextPc (s : State) : Word :=
  let p := bundle s.ir
  if s.resetFlag then 0x0000
  else if p.pl && p.jb then s.reg p.aa
  else if p.pl && p.bc then
    if s.n then branchTarget s.config.branchSignRule s.pc p.da p.ba else s.pc + 1
  else if p.pl then
    if s.z then branchTarget s.config.branchSignRule s.pc p.da p.ba else s.pc + 1
  else s.pc + 1

/-- Phase 1: `pc` written, and the reset flag consumed (R220 case 1, 10_state.md R38). -/
def controllerPhase (s : State) : State := { s with pc := nextPc s, resetFlag := false }

/-- Phase 2: `ir <- IFetch(pc)` (R102). -/
def fetchPhase (s : State) : State := { s with ir := s.readIM s.pc }

/-- The state after phases 1 and 2: the instruction of this cycle in `ir`, its address in `pc`. -/
def fetched (s : State) : State := fetchPhase (controllerPhase s)

/-- The state with an instruction word placed where the next cycle fetches, and the core running, which
a cycle needs (R108). -/
def placeAtFetch (s : State) (w : Word) : State :=
  { s with im := s.im.write (nextPc s) w, running := true }

end Sys2Proof.Machine
end

