-- ==== Sys2Proof/Machine/Flags.lean ====
section
/-! DEFINITION. The flag computation (spec/41_alu.md R138, 10_state.md R32): N and Z of a 16-bit result, the
only flags any operation writes (R34). -/

namespace Sys2Proof.Machine

/-- `N = F[15]` (R138). -/
def negativeFlag (f : Word) : Bool := f.getLsbD 15

/-- `Z = (F == 0x0000)` (R138). -/
def zeroFlag (f : Word) : Bool := f == 0x0000

/-- Both flags recomputed in full from a result (R32); C and V stay (R34). -/
def State.setFlags (s : State) (f : Word) : State :=
  { s with n := negativeFlag f, z := zeroFlag f }

end Sys2Proof.Machine
end

