-- ==== Sys2Proof/Machine/FunctionUnit.lean ====
section
/-! DEFINITION. The function unit (spec/41_alu.md): its sixteen operations on operands A and B (R121 to
R136), all modulo 2^16 (R139), and the unit as one function of the code (R120). -/

namespace Sys2Proof.Machine

/-- FS = 0, `F = A` (R121). -/
def fuMova (a : Word) : Word := a
/-- FS = 1, `F = A + 1` (R122). -/
def fuInc (a : Word) : Word := a + 1
/-- FS = 2, `F = A + B` (R123). -/
def fuAdd (a b : Word) : Word := a + b
/-- FS = 3, `F = A + B + 1` (R124). -/
def fuAdd1 (a b : Word) : Word := a + b + 1
/-- FS = 4, `F = A + (~B)` (R125). -/
def fuSub1 (a b : Word) : Word := a + ~~~b
/-- FS = 5, `F = A + (~B) + 1` (R126). -/
def fuSub (a b : Word) : Word := a + ~~~b + 1
/-- FS = 6, `F = A - 1` (R127). -/
def fuDec (a : Word) : Word := a - 1
/-- FS = 7, `F = A`, a duplicate of code 0 (R128). -/
def fuMova2 (a : Word) : Word := a
/-- FS = 8, `F = A & B` (R129). -/
def fuAnd (a b : Word) : Word := a &&& b
/-- FS = 9, `F = A | B` (R130). -/
def fuOr (a b : Word) : Word := a ||| b
/-- FS = 10, `F = A ^ B` (R131). -/
def fuXor (a b : Word) : Word := a ^^^ b
/-- FS = 11, `F = ~A` (R132). -/
def fuNot (a : Word) : Word := ~~~a
/-- FS = 12, `F = B` (R133). -/
def fuMovb (b : Word) : Word := b
/-- FS = 13, `F = B >> 1`, logical (R134). -/
def fuShr (b : Word) : Word := b >>> 1
/-- FS = 14, `F = B << 1`, bit 15 of B lost (R135). -/
def fuShl (b : Word) : Word := b <<< 1
/-- FS = 15: `F = A` under `halt`, the destination's current value `xd` under `dump` (R136). -/
def fuCode15 (variant : Fs15Variant) (a xd : Word) : Word :=
  match variant with
  | .halt => a
  | .dump => xd

/-- The result F of a code, `xd` being `x[DA]` (R120 to R136). The last arm is code 15, the only value
of a 4-bit code left (R137). -/
def fuResult (variant : Fs15Variant) (fs : FsCode) (a b xd : Word) : Word :=
  match fs.toNat with
  | 0 => fuMova a
  | 1 => fuInc a
  | 2 => fuAdd a b
  | 3 => fuAdd1 a b
  | 4 => fuSub1 a b
  | 5 => fuSub a b
  | 6 => fuDec a
  | 7 => fuMova2 a
  | 8 => fuAnd a b
  | 9 => fuOr a b
  | 10 => fuXor a b
  | 11 => fuNot a
  | 12 => fuMovb b
  | 13 => fuShr b
  | 14 => fuShl b
  | _ => fuCode15 variant a xd

/-- The function unit's outputs (R120, R262): the result, the two flags, the halt signal, and the
request for a host dump. -/
structure FuOut where
  f : Word
  n : Bool
  z : Bool
  halt : Bool
  dump : Bool
deriving DecidableEq, Repr

/-- `ALU(FS, A, B)` (R120): `halt` only for code 15 under `halt`, `dump` only for code 15 under `dump`. -/
def functionUnit (variant : Fs15Variant) (fs : FsCode) (a b xd : Word) : FuOut :=
  let f := fuResult variant fs a b xd
  { f := f
    n := negativeFlag f
    z := zeroFlag f
    halt := fs == 15 && variant == .halt
    dump := fs == 15 && variant == .dump }

/-! ## What an instruction does with a result (40_cycle.md R106, R107) -/

/-- The flags and the destination register written from a result. -/
def State.writeResult (s : State) (rd : Field3) (f : Word) : State := (s.setFlags f).setReg rd f

/-- What code 15 does to the run: `running <- 0` under `halt` (46_system.md R261), nothing under `dump`
(R262). -/
def State.code15 (s : State) : State :=
  match s.config.fs15Variant with
  | .halt => s.stop
  | .dump => s

/-- A store with a flag side effect (44_load_store.md, section 3): the literal stored, then the flags
written from a result, which is discarded. -/
def State.storeAndFlag (s : State) (ra k : Field3) (f : Word) : State :=
  (s.writeDM (effectiveAddress s ra) (storeData k)).setFlags f

/-- The word at `x[a]` of data memory into a register, flags kept (44_load_store.md R193, R194). -/
def State.loadWord (s : State) (rd ra : Field3) : State :=
  s.setReg rd (s.readDM (effectiveAddress s ra))

end Sys2Proof.Machine
end

