-- ==== Sys2Proof/Machine/AluImmediate.lean ====
section
/-! DEFINITION. The immediate-form ALU instructions (spec/43_alu_immediate.md R170 to R184): the register-form
operations with the raw BA field, zero-extended, as operand B. -/

namespace Sys2Proof.Machine

/-- MOVAI: `x[d] <- x[a]`; N, Z from the result (R170). -/
def execMovai (rd ra _k : Field3) (s : State) : Result :=
  .next (s.writeResult rd (fuMova (operandA s ra)))

/-- INCI: `x[d] <- x[a] + 1`; N, Z from the result (R171). -/
def execInci (rd ra _k : Field3) (s : State) : Result :=
  .next (s.writeResult rd (fuInc (operandA s ra)))

/-- ADDI: `x[d] <- x[a] + zext_16(k)`; N, Z from the result (R172). -/
def execAddi (rd ra k : Field3) (s : State) : Result :=
  .next (s.writeResult rd (fuAdd (operandA s ra) (operandImm k)))

/-- ADD1I: `x[d] <- x[a] + zext_16(k) + 1`; N, Z from the result (R173). -/
def execAdd1i (rd ra k : Field3) (s : State) : Result :=
  .next (s.writeResult rd (fuAdd1 (operandA s ra) (operandImm k)))

/-- SUB1I: `x[d] <- x[a] + ~zext_16(k)`; N, Z from the result (R174). -/
def execSub1i (rd ra k : Field3) (s : State) : Result :=
  .next (s.writeResult rd (fuSub1 (operandA s ra) (operandImm k)))

/-- SUBI: `x[d] <- x[a] + ~zext_16(k) + 1`; N, Z from the result (R175). -/
def execSubi (rd ra k : Field3) (s : State) : Result :=
  .next (s.writeResult rd (fuSub (operandA s ra) (operandImm k)))

/-- DECI: `x[d] <- x[a] - 1`; N, Z from the result (R176). -/
def execDeci (rd ra _k : Field3) (s : State) : Result :=
  .next (s.writeResult rd (fuDec (operandA s ra)))

/-- MOVA2I: `x[d] <- x[a]`; N, Z from the result (R177). -/
def execMova2i (rd ra _k : Field3) (s : State) : Result :=
  .next (s.writeResult rd (fuMova2 (operandA s ra)))

/-- ANDI: `x[d] <- x[a] & zext_16(k)`; N, Z from the result (R178). -/
def execAndi (rd ra k : Field3) (s : State) : Result :=
  .next (s.writeResult rd (fuAnd (operandA s ra) (operandImm k)))

/-- ORI: `x[d] <- x[a] | zext_16(k)`; N, Z from the result (R179). -/
def execOri (rd ra k : Field3) (s : State) : Result :=
  .next (s.writeResult rd (fuOr (operandA s ra) (operandImm k)))

/-- XORI: `x[d] <- x[a] ^ zext_16(k)`; N, Z from the result (R180). -/
def execXori (rd ra k : Field3) (s : State) : Result :=
  .next (s.writeResult rd (fuXor (operandA s ra) (operandImm k)))

/-- NOTI: `x[d] <- ~x[a]`; N, Z from the result (R181). -/
def execNoti (rd ra _k : Field3) (s : State) : Result :=
  .next (s.writeResult rd (fuNot (operandA s ra)))

/-- MOVBI: `x[d] <- zext_16(k)`; N, Z from the result (R182). -/
def execMovbi (rd _ra k : Field3) (s : State) : Result :=
  .next (s.writeResult rd (fuMovb (operandImm k)))

/-- SHRI: `x[d] <- zext_16(k) >> 1`; N, Z from the result (R183). -/
def execShri (rd _ra k : Field3) (s : State) : Result :=
  .next (s.writeResult rd (fuShr (operandImm k)))

/-- SHLI: `x[d] <- zext_16(k) << 1`; N, Z from the result (R184). -/
def execShli (rd _ra k : Field3) (s : State) : Result :=
  .next (s.writeResult rd (fuShl (operandImm k)))

end Sys2Proof.Machine
end

