-- ==== Sys2Proof/Machine/AluRegister.lean ====
section
/-! DEFINITION. The register-form ALU instructions (spec/42_alu_register.md R150 to R164), phases 4 to 7 of
their cycle: operands read before the register is written (40_cycle.md R112). None raises an exception. -/

namespace Sys2Proof.Machine

/-- MOVA: `x[d] <- x[a]`; N, Z from the result (R150). -/
def execMova (rd ra _rb : Field3) (s : State) : Result :=
  .next (s.writeResult rd (fuMova (operandA s ra)))

/-- INC: `x[d] <- x[a] + 1`; N, Z from the result (R151). -/
def execInc (rd ra _rb : Field3) (s : State) : Result :=
  .next (s.writeResult rd (fuInc (operandA s ra)))

/-- ADD: `x[d] <- x[a] + x[b]`; N, Z from the result (R152). -/
def execAdd (rd ra rb : Field3) (s : State) : Result :=
  .next (s.writeResult rd (fuAdd (operandA s ra) (operandReg s rb)))

/-- ADD1: `x[d] <- x[a] + x[b] + 1`; N, Z from the result (R153). -/
def execAdd1 (rd ra rb : Field3) (s : State) : Result :=
  .next (s.writeResult rd (fuAdd1 (operandA s ra) (operandReg s rb)))

/-- SUB1: `x[d] <- x[a] + ~x[b]`; N, Z from the result (R154). -/
def execSub1 (rd ra rb : Field3) (s : State) : Result :=
  .next (s.writeResult rd (fuSub1 (operandA s ra) (operandReg s rb)))

/-- SUB: `x[d] <- x[a] + ~x[b] + 1`; N, Z from the result (R155). -/
def execSub (rd ra rb : Field3) (s : State) : Result :=
  .next (s.writeResult rd (fuSub (operandA s ra) (operandReg s rb)))

/-- DEC: `x[d] <- x[a] - 1`; N, Z from the result (R156). -/
def execDec (rd ra _rb : Field3) (s : State) : Result :=
  .next (s.writeResult rd (fuDec (operandA s ra)))

/-- MOVA2: `x[d] <- x[a]`; N, Z from the result (R157). -/
def execMova2 (rd ra _rb : Field3) (s : State) : Result :=
  .next (s.writeResult rd (fuMova2 (operandA s ra)))

/-- AND: `x[d] <- x[a] & x[b]`; N, Z from the result (R158). -/
def execAnd (rd ra rb : Field3) (s : State) : Result :=
  .next (s.writeResult rd (fuAnd (operandA s ra) (operandReg s rb)))

/-- OR: `x[d] <- x[a] | x[b]`; N, Z from the result (R159). -/
def execOr (rd ra rb : Field3) (s : State) : Result :=
  .next (s.writeResult rd (fuOr (operandA s ra) (operandReg s rb)))

/-- XOR: `x[d] <- x[a] ^ x[b]`; N, Z from the result (R160). -/
def execXor (rd ra rb : Field3) (s : State) : Result :=
  .next (s.writeResult rd (fuXor (operandA s ra) (operandReg s rb)))

/-- NOT: `x[d] <- ~x[a]`; N, Z from the result (R161). -/
def execNot (rd ra _rb : Field3) (s : State) : Result :=
  .next (s.writeResult rd (fuNot (operandA s ra)))

/-- MOVB: `x[d] <- x[b]`; N, Z from the result (R162). -/
def execMovb (rd _ra rb : Field3) (s : State) : Result :=
  .next (s.writeResult rd (fuMovb (operandReg s rb)))

/-- SHR: `x[d] <- x[b] >> 1`; N, Z from the result (R163). -/
def execShr (rd _ra rb : Field3) (s : State) : Result :=
  .next (s.writeResult rd (fuShr (operandReg s rb)))

/-- SHL: `x[d] <- x[b] << 1`; N, Z from the result (R164). -/
def execShl (rd _ra rb : Field3) (s : State) : Result :=
  .next (s.writeResult rd (fuShl (operandReg s rb)))

end Sys2Proof.Machine
end

