-- ==== Sys2Proof/Machine/ControlTransfer.lean ====
section
/-! DEFINITION. The control-transfer instructions (spec/45_control_transfer.md R228 to R244), phases 4 to 7 of
their OWN cycle. `pc` is written by the branch/PC controller alone (10_state.md R27), at the start of the
next cycle, from the word these instructions leave in `ir`: `nextPc` in Controller.lean. DEDUCED (the cycle view
of R113), safe: log entry 10. -/

namespace Sys2Proof.Machine

/-- BRZ.MOVA, own cycle: N, Z from `x[a]`, which is discarded; the next cycle tests Z (R229). -/
def execBrzMova (_offHi ra _offLo : Field3) (s : State) : Result :=
  .next (s.setFlags (fuMova (operandA s ra)))

/-- BRZ.ADD, own cycle: N, Z from `x[a] + zext_16(BA)`, which is discarded; the next cycle tests Z (R230). -/
def execBrzAdd (_offHi ra offLo : Field3) (s : State) : Result :=
  .next (s.setFlags (fuAdd (operandA s ra) (operandImm offLo)))

/-- BRZ.SUB1, own cycle: N, Z from `x[a] + ~zext_16(BA)`, which is discarded; the next cycle tests Z (R231). -/
def execBrzSub1 (_offHi ra offLo : Field3) (s : State) : Result :=
  .next (s.setFlags (fuSub1 (operandA s ra) (operandImm offLo)))

/-- BRZ.DEC, own cycle: N, Z from `x[a] - 1`, which is discarded; the next cycle tests Z (R232). -/
def execBrzDec (_offHi ra _offLo : Field3) (s : State) : Result :=
  .next (s.setFlags (fuDec (operandA s ra)))

/-- BRZ.AND, own cycle: N, Z from `x[a] & zext_16(BA)`, which is discarded; the next cycle tests Z (R233). -/
def execBrzAnd (_offHi ra offLo : Field3) (s : State) : Result :=
  .next (s.setFlags (fuAnd (operandA s ra) (operandImm offLo)))

/-- BRZ.XOR, own cycle: N, Z from `x[a] ^ zext_16(BA)`, which is discarded; the next cycle tests Z (R234). -/
def execBrzXor (_offHi ra offLo : Field3) (s : State) : Result :=
  .next (s.setFlags (fuXor (operandA s ra) (operandImm offLo)))

/-- BRZ.MOVB, own cycle: N, Z from `zext_16(BA)`, which is discarded; the next cycle tests Z (R235). -/
def execBrzMovb (_offHi _ra offLo : Field3) (s : State) : Result :=
  .next (s.setFlags (fuMovb (operandImm offLo)))

/-- BRZ.SHL, own cycle: N, Z from `zext_16(BA) << 1`, which is discarded; the next cycle tests Z (R236). -/
def execBrzShl (_offHi _ra offLo : Field3) (s : State) : Result :=
  .next (s.setFlags (fuShl (operandImm offLo)))

/-- BRN.MOVA, own cycle: N, Z from `x[a]`, which is discarded; the next cycle tests N (R237). -/
def execBrnMova (_offHi ra _offLo : Field3) (s : State) : Result :=
  .next (s.setFlags (fuMova (operandA s ra)))

/-- BRN.ADD, own cycle: N, Z from `x[a] + zext_16(BA)`, which is discarded; the next cycle tests N (R238). -/
def execBrnAdd (_offHi ra offLo : Field3) (s : State) : Result :=
  .next (s.setFlags (fuAdd (operandA s ra) (operandImm offLo)))

/-- BRN.SUB1, own cycle: N, Z from `x[a] + ~zext_16(BA)`, which is discarded; the next cycle tests N (R239). -/
def execBrnSub1 (_offHi ra offLo : Field3) (s : State) : Result :=
  .next (s.setFlags (fuSub1 (operandA s ra) (operandImm offLo)))

/-- BRN.DEC, own cycle: N, Z from `x[a] - 1`, which is discarded; the next cycle tests N (R240). -/
def execBrnDec (_offHi ra _offLo : Field3) (s : State) : Result :=
  .next (s.setFlags (fuDec (operandA s ra)))

/-- BRN.AND, own cycle: N, Z from `x[a] & zext_16(BA)`, which is discarded; the next cycle tests N (R241). -/
def execBrnAnd (_offHi ra offLo : Field3) (s : State) : Result :=
  .next (s.setFlags (fuAnd (operandA s ra) (operandImm offLo)))

/-- BRN.XOR, own cycle: N, Z from `x[a] ^ zext_16(BA)`, which is discarded; the next cycle tests N (R242). -/
def execBrnXor (_offHi ra offLo : Field3) (s : State) : Result :=
  .next (s.setFlags (fuXor (operandA s ra) (operandImm offLo)))

/-- BRN.MOVB, own cycle: N, Z from `zext_16(BA)`, which is discarded; the next cycle tests N (R243). -/
def execBrnMovb (_offHi _ra offLo : Field3) (s : State) : Result :=
  .next (s.setFlags (fuMovb (operandImm offLo)))

/-- BRN.SHL, own cycle: N, Z from `zext_16(BA) << 1`, which is discarded; the next cycle tests N (R244). -/
def execBrnShl (_offHi _ra offLo : Field3) (s : State) : Result :=
  .next (s.setFlags (fuShl (operandImm offLo)))

/-- JMP, own cycle: the word at `x[a]` read and discarded, nothing written; the next cycle's controller takes
`pc <- x[a]` (R228). -/
def execJmp (ra : Field3) (s : State) : Result :=
  .next (s.discardRead (effectiveAddress s ra))

end Sys2Proof.Machine
end

