-- ==== Sys2Proof/Machine/LoadStore.lean ====
section
/-! DEFINITION. Loads and stores (spec/44_load_store.md R190 to R209, R211). A store writes the raw BA field, and
its flag operation takes `x[BA]` as operand B. -/

namespace Sys2Proof.Machine

/-- LD: `x[d] <- MemRead(x[a], 1)`, the function unit bypassed, so flags kept (R193). -/
def execLd (rd ra : Field3) (s : State) : Result :=
  .next (s.loadWord rd ra)

/-- LD.MB: the MB = 1 twin of LD, which computes exactly what LD computes (R194). -/
def execLdMb (rd ra : Field3) (s : State) : Result :=
  .next (s.loadWord rd ra)

/-- ST.MOVA: `MemWrite(x[a], 1, zext_16(k))`; N, Z from `x[a]`, which is discarded (R195). -/
def execStMova (ra k : Field3) (s : State) : Result :=
  .next (s.storeAndFlag ra k (fuMova (operandA s ra)))

/-- ST.INC: `MemWrite(x[a], 1, zext_16(k))`; N, Z from `x[a] + 1`, which is discarded (R196). -/
def execStInc (ra k : Field3) (s : State) : Result :=
  .next (s.storeAndFlag ra k (fuInc (operandA s ra)))

/-- ST.ADD: `MemWrite(x[a], 1, zext_16(k))`; N, Z from `x[a] + x[k]`, which is discarded (R197). -/
def execStAdd (ra k : Field3) (s : State) : Result :=
  .next (s.storeAndFlag ra k (fuAdd (operandA s ra) (operandReg s k)))

/-- ST.ADD1: `MemWrite(x[a], 1, zext_16(k))`; N, Z from `x[a] + x[k] + 1`, which is discarded (R198). -/
def execStAdd1 (ra k : Field3) (s : State) : Result :=
  .next (s.storeAndFlag ra k (fuAdd1 (operandA s ra) (operandReg s k)))

/-- ST.SUB1: `MemWrite(x[a], 1, zext_16(k))`; N, Z from `x[a] + ~x[k]`, which is discarded (R199). -/
def execStSub1 (ra k : Field3) (s : State) : Result :=
  .next (s.storeAndFlag ra k (fuSub1 (operandA s ra) (operandReg s k)))

/-- ST.SUB: `MemWrite(x[a], 1, zext_16(k))`; N, Z from `x[a] + ~x[k] + 1`, which is discarded (R200). -/
def execStSub (ra k : Field3) (s : State) : Result :=
  .next (s.storeAndFlag ra k (fuSub (operandA s ra) (operandReg s k)))

/-- ST.DEC: `MemWrite(x[a], 1, zext_16(k))`; N, Z from `x[a] - 1`, which is discarded (R201). -/
def execStDec (ra k : Field3) (s : State) : Result :=
  .next (s.storeAndFlag ra k (fuDec (operandA s ra)))

/-- ST.MOVA2: `MemWrite(x[a], 1, zext_16(k))`; N, Z from `x[a]`, which is discarded (R202). -/
def execStMova2 (ra k : Field3) (s : State) : Result :=
  .next (s.storeAndFlag ra k (fuMova2 (operandA s ra)))

/-- ST.AND: `MemWrite(x[a], 1, zext_16(k))`; N, Z from `x[a] & x[k]`, which is discarded (R203). -/
def execStAnd (ra k : Field3) (s : State) : Result :=
  .next (s.storeAndFlag ra k (fuAnd (operandA s ra) (operandReg s k)))

/-- ST.OR: `MemWrite(x[a], 1, zext_16(k))`; N, Z from `x[a] | x[k]`, which is discarded (R204). -/
def execStOr (ra k : Field3) (s : State) : Result :=
  .next (s.storeAndFlag ra k (fuOr (operandA s ra) (operandReg s k)))

/-- ST.XOR: `MemWrite(x[a], 1, zext_16(k))`; N, Z from `x[a] ^ x[k]`, which is discarded (R205). -/
def execStXor (ra k : Field3) (s : State) : Result :=
  .next (s.storeAndFlag ra k (fuXor (operandA s ra) (operandReg s k)))

/-- ST.NOT: `MemWrite(x[a], 1, zext_16(k))`; N, Z from `~x[a]`, which is discarded (R206). -/
def execStNot (ra k : Field3) (s : State) : Result :=
  .next (s.storeAndFlag ra k (fuNot (operandA s ra)))

/-- ST.MOVB: `MemWrite(x[a], 1, zext_16(k))`; N, Z from `x[k]`, which is discarded (R207). -/
def execStMovb (ra k : Field3) (s : State) : Result :=
  .next (s.storeAndFlag ra k (fuMovb (operandReg s k)))

/-- ST.SHR: `MemWrite(x[a], 1, zext_16(k))`; N, Z from `x[k] >> 1`, which is discarded (R208). -/
def execStShr (ra k : Field3) (s : State) : Result :=
  .next (s.storeAndFlag ra k (fuShr (operandReg s k)))

/-- ST.SHL: `MemWrite(x[a], 1, zext_16(k))`; N, Z from `x[k] << 1`, which is discarded (R209). -/
def execStShl (ra k : Field3) (s : State) : Result :=
  .next (s.storeAndFlag ra k (fuShl (operandReg s k)))

/-- ST.NF: `MemWrite(x[a], 1, zext_16(k))`, then a discarded read of the same word; flags kept (R211,
20_memory.md R61). -/
def execStNf (ra k : Field3) (s : State) : Result :=
  .next ((s.writeDM (effectiveAddress s ra) (storeData k)).discardRead (effectiveAddress s ra))

end Sys2Proof.Machine
end

