-- ==== Sys2Proof/Machine/System.lean ====
section
/-! DEFINITION. The three instructions whose function unit runs code 15 (spec/46_system.md R260 to R263): HALT,
HALTI and ST.HALT. There is no other system instruction (R264). -/

namespace Sys2Proof.Machine

/-- HALT: code 15 on `x[a]`. Under `halt`, `x[d] <- x[a]; running <- 0`, the write done in the halting
cycle too (R165, R261, 40_cycle.md R107); under `dump`, `F = x[d]` and the run goes on (R262). N and Z from F. -/
def execHalt (rd ra _rb : Field3) (s : State) : Result :=
  .next (s.code15.writeResult rd (fuCode15 s.config.fs15Variant (operandA s ra) (s.reg rd)))

/-- HALTI: as HALT; the immediate is ignored (R185). -/
def execHalti (rd ra _k : Field3) (s : State) : Result :=
  .next (s.code15.writeResult rd (fuCode15 s.config.fs15Variant (operandA s ra) (s.reg rd)))

/-- ST.HALT: stores k at `x[a]`, then code 15: N and Z from `x[a]` and the run ends under `halt`; N and Z
from the current `x[DA]` and the run goes on under `dump` (R210, 60_exceptions.md R302). -/
def execStHalt (rd ra k : Field3) (s : State) : Result :=
  .next (s.storeAndFlag ra k (fuCode15 s.config.fs15Variant (operandA s ra) (s.reg rd))).code15

end Sys2Proof.Machine
end

