-- ==== Sys2Proof/Machine/Dispatch.lean ====
section
/-! DEFINITION. One arm per instruction, each one call of its meaning: phases 4 to 7 of the cycle that
fetched it (spec/40_cycle.md R104 to R107). -/

namespace Sys2Proof.Machine

def exec (i : Instr) (s : State) : Host.Outcome State Fault Refusal :=
  match i with
  | .mova rd ra rb => Sys2Proof.Machine.execMova rd ra rb s
  | .inc rd ra rb => Sys2Proof.Machine.execInc rd ra rb s
  | .add rd ra rb => Sys2Proof.Machine.execAdd rd ra rb s
  | .add1 rd ra rb => Sys2Proof.Machine.execAdd1 rd ra rb s
  | .sub1 rd ra rb => Sys2Proof.Machine.execSub1 rd ra rb s
  | .sub rd ra rb => Sys2Proof.Machine.execSub rd ra rb s
  | .dec rd ra rb => Sys2Proof.Machine.execDec rd ra rb s
  | .mova2 rd ra rb => Sys2Proof.Machine.execMova2 rd ra rb s
  | .and rd ra rb => Sys2Proof.Machine.execAnd rd ra rb s
  | .or rd ra rb => Sys2Proof.Machine.execOr rd ra rb s
  | .xor rd ra rb => Sys2Proof.Machine.execXor rd ra rb s
  | .not rd ra rb => Sys2Proof.Machine.execNot rd ra rb s
  | .movb rd ra rb => Sys2Proof.Machine.execMovb rd ra rb s
  | .shr rd ra rb => Sys2Proof.Machine.execShr rd ra rb s
  | .shl rd ra rb => Sys2Proof.Machine.execShl rd ra rb s
  | .halt rd ra rb => Sys2Proof.Machine.execHalt rd ra rb s
  | .movai rd ra k => Sys2Proof.Machine.execMovai rd ra k s
  | .inci rd ra k => Sys2Proof.Machine.execInci rd ra k s
  | .addi rd ra k => Sys2Proof.Machine.execAddi rd ra k s
  | .add1i rd ra k => Sys2Proof.Machine.execAdd1i rd ra k s
  | .sub1i rd ra k => Sys2Proof.Machine.execSub1i rd ra k s
  | .subi rd ra k => Sys2Proof.Machine.execSubi rd ra k s
  | .deci rd ra k => Sys2Proof.Machine.execDeci rd ra k s
  | .mova2i rd ra k => Sys2Proof.Machine.execMova2i rd ra k s
  | .andi rd ra k => Sys2Proof.Machine.execAndi rd ra k s
  | .ori rd ra k => Sys2Proof.Machine.execOri rd ra k s
  | .xori rd ra k => Sys2Proof.Machine.execXori rd ra k s
  | .noti rd ra k => Sys2Proof.Machine.execNoti rd ra k s
  | .movbi rd ra k => Sys2Proof.Machine.execMovbi rd ra k s
  | .shri rd ra k => Sys2Proof.Machine.execShri rd ra k s
  | .shli rd ra k => Sys2Proof.Machine.execShli rd ra k s
  | .halti rd ra k => Sys2Proof.Machine.execHalti rd ra k s
  | .ld rd ra => Sys2Proof.Machine.execLd rd ra s
  | .ldMb rd ra => Sys2Proof.Machine.execLdMb rd ra s
  | .stMova ra k => Sys2Proof.Machine.execStMova ra k s
  | .stInc ra k => Sys2Proof.Machine.execStInc ra k s
  | .stAdd ra k => Sys2Proof.Machine.execStAdd ra k s
  | .stAdd1 ra k => Sys2Proof.Machine.execStAdd1 ra k s
  | .stSub1 ra k => Sys2Proof.Machine.execStSub1 ra k s
  | .stSub ra k => Sys2Proof.Machine.execStSub ra k s
  | .stDec ra k => Sys2Proof.Machine.execStDec ra k s
  | .stMova2 ra k => Sys2Proof.Machine.execStMova2 ra k s
  | .stAnd ra k => Sys2Proof.Machine.execStAnd ra k s
  | .stOr ra k => Sys2Proof.Machine.execStOr ra k s
  | .stXor ra k => Sys2Proof.Machine.execStXor ra k s
  | .stNot ra k => Sys2Proof.Machine.execStNot ra k s
  | .stMovb ra k => Sys2Proof.Machine.execStMovb ra k s
  | .stShr ra k => Sys2Proof.Machine.execStShr ra k s
  | .stShl ra k => Sys2Proof.Machine.execStShl ra k s
  | .stHalt rd ra k => Sys2Proof.Machine.execStHalt rd ra k s
  | .stNf ra k => Sys2Proof.Machine.execStNf ra k s
  | .brzMova offHi ra offLo => Sys2Proof.Machine.execBrzMova offHi ra offLo s
  | .brzAdd offHi ra offLo => Sys2Proof.Machine.execBrzAdd offHi ra offLo s
  | .brzSub1 offHi ra offLo => Sys2Proof.Machine.execBrzSub1 offHi ra offLo s
  | .brzDec offHi ra offLo => Sys2Proof.Machine.execBrzDec offHi ra offLo s
  | .brzAnd offHi ra offLo => Sys2Proof.Machine.execBrzAnd offHi ra offLo s
  | .brzXor offHi ra offLo => Sys2Proof.Machine.execBrzXor offHi ra offLo s
  | .brzMovb offHi ra offLo => Sys2Proof.Machine.execBrzMovb offHi ra offLo s
  | .brzShl offHi ra offLo => Sys2Proof.Machine.execBrzShl offHi ra offLo s
  | .brnMova offHi ra offLo => Sys2Proof.Machine.execBrnMova offHi ra offLo s
  | .brnAdd offHi ra offLo => Sys2Proof.Machine.execBrnAdd offHi ra offLo s
  | .brnSub1 offHi ra offLo => Sys2Proof.Machine.execBrnSub1 offHi ra offLo s
  | .brnDec offHi ra offLo => Sys2Proof.Machine.execBrnDec offHi ra offLo s
  | .brnAnd offHi ra offLo => Sys2Proof.Machine.execBrnAnd offHi ra offLo s
  | .brnXor offHi ra offLo => Sys2Proof.Machine.execBrnXor offHi ra offLo s
  | .brnMovb offHi ra offLo => Sys2Proof.Machine.execBrnMovb offHi ra offLo s
  | .brnShl offHi ra offLo => Sys2Proof.Machine.execBrnShl offHi ra offLo s
  | .jmp ra => Sys2Proof.Machine.execJmp ra s

end Sys2Proof.Machine
end

