-- ==== Sys2Proof/Machine/Step.lean ====
section
/-! DEFINITION. One step = one cycle (spec/40_cycle.md R100, R109): controller and fetch, then the decoded
instruction's meaning. A cycle starts only while the core runs (R108). -/

namespace Sys2Proof.Machine

/-- One cycle, or, once the run has ended, no change: nothing wakes a halted core and all its state
survives (60_exceptions.md R311). DESIGN CHOICE, unsafe: log entry 3. -/
def step (s : State) : Host.Outcome State Fault Refusal :=
  if s.running then exec (decode (fetched s).ir) (fetched s) else .next s

/-- The state with the instruction of the given bits where the next step fetches: it stands for the host's
load of a program. DESIGN CHOICE, safe: log entry 8. -/
def State.withFetchWord (s : State) (nbits w : Nat) : State := placeAtFetch s (wordOfBits nbits w)

end Sys2Proof.Machine
end

