-- ==== Sys2Proof/Machine/Cycle.lean ====
section
/-! DEFINITION. Two views of the machine that the spec gives beside the instructions' own rules: the cycle as
one function of the control-signal bundle (spec/40_cycle.md R104 to R107, R109), and the instruction-level
view's successor address (R113). `step` does not use them; statements relate it to them. -/

namespace Sys2Proof.Machine

/-! ## Phases 4 to 7 by the bundle (R104 to R107) -/

/-- Phase 4, operand B: the raw BA field when MB = 1, else `x[BA]` (R104). -/
def cycleOperandB (p : Bundle) (s : State) : Word := if p.mb then zext16 p.ba else s.reg p.ba

/-- Phase 5: the data-memory write, when MW = 1 (R105). -/
def memoryWritePhase (p : Bundle) (s : State) : State :=
  if p.mw then s.writeDM (s.reg p.aa) (zext16 p.ba) else s

/-- The function unit's outputs for a bundle, on the operands phase 4 reads from `s` (R104, R106). -/
def cycleFunctionUnit (p : Bundle) (s : State) : FuOut :=
  functionUnit s.config.fs15Variant p.fs (s.reg p.aa) (cycleOperandB p s) (s.reg p.da)

/-- Phase 6, the result: the word read from data memory after phase 5 when MD = 1, else the function
unit's (R106, 20_memory.md R61). -/
def cycleResult (p : Bundle) (s : State) : Word :=
  if p.md then (memoryWritePhase p s).readDM (s.reg p.aa) else (cycleFunctionUnit p s).f

/-- Phase 6, the state: N, Z and the run flag, when MD = 0 (R106). -/
def resultPhase (p : Bundle) (o : FuOut) (s : State) : State :=
  if p.md then s else { s with n := o.n, z := o.z, running := s.running && !o.halt }

/-- Phase 7: the register write, when RW = 1 (R107). -/
def registerWritePhase (p : Bundle) (f : Word) (s : State) : State :=
  if p.rw then s.setReg p.da f else s

/-- Phases 4 to 7 in their order (R100). -/
def executePhases (p : Bundle) (s : State) : State :=
  registerWritePhase p (cycleResult p s)
    (resultPhase p (cycleFunctionUnit p s) (memoryWritePhase p s))

/-- One cycle as a total function of the state (R109). -/
def cycle (s : State) : State := executePhases (bundle (fetched s).ir) (fetched s)

/-! ## The successor of an instruction (R113) -/

/-- The successor of a conditional branch at `q` whose tested flag is `taken`. -/
def branchSuccessor (taken : Bool) (q : Word) (offHi offLo : Field3) (t : State) : Word :=
  if taken then branchTarget t.config.branchSignRule q offHi offLo else q + 1

/-- The address of the instruction after `i` at `q`, `t` being the state `i` leaves (R113). -/
def successor (i : Instr) (q : Word) (t : State) : Word :=
  match i with
  | .mova _ _ _ => q + 1
  | .inc _ _ _ => q + 1
  | .add _ _ _ => q + 1
  | .add1 _ _ _ => q + 1
  | .sub1 _ _ _ => q + 1
  | .sub _ _ _ => q + 1
  | .dec _ _ _ => q + 1
  | .mova2 _ _ _ => q + 1
  | .and _ _ _ => q + 1
  | .or _ _ _ => q + 1
  | .xor _ _ _ => q + 1
  | .not _ _ _ => q + 1
  | .movb _ _ _ => q + 1
  | .shr _ _ _ => q + 1
  | .shl _ _ _ => q + 1
  | .halt _ _ _ => q + 1
  | .movai _ _ _ => q + 1
  | .inci _ _ _ => q + 1
  | .addi _ _ _ => q + 1
  | .add1i _ _ _ => q + 1
  | .sub1i _ _ _ => q + 1
  | .subi _ _ _ => q + 1
  | .deci _ _ _ => q + 1
  | .mova2i _ _ _ => q + 1
  | .andi _ _ _ => q + 1
  | .ori _ _ _ => q + 1
  | .xori _ _ _ => q + 1
  | .noti _ _ _ => q + 1
  | .movbi _ _ _ => q + 1
  | .shri _ _ _ => q + 1
  | .shli _ _ _ => q + 1
  | .halti _ _ _ => q + 1
  | .ld _ _ => q + 1
  | .ldMb _ _ => q + 1
  | .stMova _ _ => q + 1
  | .stInc _ _ => q + 1
  | .stAdd _ _ => q + 1
  | .stAdd1 _ _ => q + 1
  | .stSub1 _ _ => q + 1
  | .stSub _ _ => q + 1
  | .stDec _ _ => q + 1
  | .stMova2 _ _ => q + 1
  | .stAnd _ _ => q + 1
  | .stOr _ _ => q + 1
  | .stXor _ _ => q + 1
  | .stNot _ _ => q + 1
  | .stMovb _ _ => q + 1
  | .stShr _ _ => q + 1
  | .stShl _ _ => q + 1
  | .stHalt _ _ _ => q + 1
  | .stNf _ _ => q + 1
  | .brzMova offHi _ offLo => branchSuccessor t.z q offHi offLo t
  | .brzAdd offHi _ offLo => branchSuccessor t.z q offHi offLo t
  | .brzSub1 offHi _ offLo => branchSuccessor t.z q offHi offLo t
  | .brzDec offHi _ offLo => branchSuccessor t.z q offHi offLo t
  | .brzAnd offHi _ offLo => branchSuccessor t.z q offHi offLo t
  | .brzXor offHi _ offLo => branchSuccessor t.z q offHi offLo t
  | .brzMovb offHi _ offLo => branchSuccessor t.z q offHi offLo t
  | .brzShl offHi _ offLo => branchSuccessor t.z q offHi offLo t
  | .brnMova offHi _ offLo => branchSuccessor t.n q offHi offLo t
  | .brnAdd offHi _ offLo => branchSuccessor t.n q offHi offLo t
  | .brnSub1 offHi _ offLo => branchSuccessor t.n q offHi offLo t
  | .brnDec offHi _ offLo => branchSuccessor t.n q offHi offLo t
  | .brnAnd offHi _ offLo => branchSuccessor t.n q offHi offLo t
  | .brnXor offHi _ offLo => branchSuccessor t.n q offHi offLo t
  | .brnMovb offHi _ offLo => branchSuccessor t.n q offHi offLo t
  | .brnShl offHi _ offLo => branchSuccessor t.n q offHi offLo t
  | .jmp ra => t.reg ra

end Sys2Proof.Machine
end

