-- ==== Sys2Proof/Machine/HostInterface.lean ====
section
/-! DEFINITION. The host's side of a run (spec/70_reset_and_hazards.md R338, R339, R333): loading the two
images, the end of a run (40_cycle.md R111), and the diagnostic dump (46_system.md R262, 60_exceptions.md
R310). Nothing here acts during a run (10_state.md R21). -/

namespace Sys2Proof.Machine

/-! ## Loading (R338, R339) -/

/-- Why a launch fails; "execution does not begin" (R339, R312). -/
inductive LoadFailure where
  /-- Not "exactly two positional arguments". -/
  | wrongArgumentCount
  /-- "A missing or unreadable file". -/
  | unreadableFile
  /-- More than 65536 lines. -/
  | tooManyLines
  /-- A line that is no hexadecimal literal. -/
  | malformedLine
  /-- A literal above 0xFFFF. -/
  | literalTooLarge
deriving DecidableEq, Repr

/-- A file argument: its lines, or none where it is missing or unreadable. -/
abbrev ImageFile := Option (List ImageLine)

/-- The word of one line. -/
def lineWord : ImageLine → Except LoadFailure Word
  | .literal value => if value ≤ 0xFFFF then .ok (BitVec.ofNat 16 value) else .error .literalTooLarge
  | .notHex => .error .malformedLine

/-- The words of the lines in order, or the first bad line's failure. DESIGN CHOICE,
unsafe: log entry 6. -/
def linesWords : List ImageLine → Except LoadFailure (List Word)
  | [] => .ok []
  | line :: lines =>
    match lineWord line with
    | .error e => .error e
    | .ok w =>
      match linesWords lines with
      | .error e => .error e
      | .ok ws => .ok (w :: ws)

/-- The words of an image file (R339). -/
def imageWords : ImageFile → Except LoadFailure (List Word)
  | none => .error .unreadableFile
  | some lines => if 65536 < lines.length then .error .tooManyLines else linesWords lines

/-- Successive words from an address upward, as a memory in canonical form (R338). -/
def memoryFrom : Nat → List Word → Memory
  | _, [] => []
  | k, w :: ws => if w = unlistedWord then memoryFrom (k + 1) ws else (k, w) :: memoryFrom (k + 1) ws

/-- The launch state with both memories loaded from address 0 (R330, R333). -/
def launchState (config : Config) (instructions data : List Word) : State :=
  { State.reset with im := memoryFrom 0 instructions, dm := memoryFrom 0 data, config := config }

/-- A launch: the instruction image, then the data image (R338, R339). Their order is a
DESIGN CHOICE, unsafe: log entry 5. -/
def launch (config : Config) : List ImageFile → Except LoadFailure State
  | [instructionFile, dataFile] =>
    match imageWords instructionFile, imageWords dataFile with
    | .ok instructions, .ok data => .ok (launchState config instructions data)
    | .error e, _ => .error e
    | .ok _, .error e => .error e
  | _ => .error .wrongArgumentCount

/-! ## The end of a run (40_cycle.md R110, R111, 70_reset_and_hazards.md R344) -/

/-- The state in which a run ends, within at most `fuel` cycles; none: "a run that uses up its fuel has
not ended" (R344). -/
def runUntilHalt : Nat → State → Option State
  | 0, s => if s.running then none else some s
  | fuel + 1, s =>
    if s.running then
      match step s with
      | .next t => runUntilHalt fuel t
      | .fault _ => none
      | .refused _ => none
    else some s

/-! ## The diagnostic dump (R262, R310) -/

/-- What a dump holds: "the full memory and register state" (R262). Its text is out of scope
(00_scope.md R5). DEDUCED, unsafe: log entry 4. -/
structure Dump where
  registers : Vector Word 8
  instructionMemory : Memory
  dataMemory : Memory
deriving DecidableEq, Repr

/-- The dump of a state: the host's hook on a final state under `halt` (R310, R338). -/
def State.hostDump (s : State) : Dump :=
  { registers := s.x, instructionMemory := s.im, dataMemory := s.dm }

/-- Whether the word runs the function unit with code 15: MD = 0 and FS = 15 (R263). -/
def runsCode15 (w : Word) : Bool := !(bundle w).md && (bundle w).fs == 15

/-- The dump the host receives from the next cycle: under `dump`, one for each code 15 (R262), taken in
phase 6, when the store of phase 5 is done and phase 7 will change no register. -/
def stepDump (s : State) : Option Dump :=
  if s.running && s.config.fs15Variant == .dump && runsCode15 (fetched s).ir then
    match step s with
    | .next t => some t.hostDump
    | .fault _ => none
    | .refused _ => none
  else none

end Sys2Proof.Machine
end

