-- ==== Sys2Proof/Safety.lean ====
section
/-! DEFINITION. What counts as a safe run, the invariant of the machine, and the frames the statements are
made of: what an instruction changes and that it changes nothing else. -/

namespace Sys2Proof.Machine

/-! ## Safety -/

/-- The invariant every step keeps: both memories in canonical form, C and V at 0 (10_state.md R34), and
one of the three run states of R39. -/
structure State.Inv (s : State) : Prop where
  im_wf : s.im.wf = true
  dm_wf : s.dm.wf = true
  c_zero : s.c = false
  v_zero : s.v = false
  run_state : ¬(s.resetFlag = true ∧ s.running = false)

/-- A safe start: after any number of cycles the machine has not stopped with a fault or a refusal (60_exceptions.md
R300) and the invariant holds. -/
def State.Safe (s : State) : Prop :=
  ∀ k, ∃ t, Host.Core.run Sys2Proof.core k s = .next t ∧ t.Inv

/-! ## Frames -/

/-- Every register but one is unchanged. -/
def SameRegistersBut (rd : Field3) (s t : State) : Prop := ∀ r, r ≠ rd → t.reg r = s.reg r

/-- Every register is unchanged. -/
def SameRegisters (s t : State) : Prop := ∀ r, t.reg r = s.reg r

/-- Every word of instruction memory is unchanged. -/
def SameInstructions (s t : State) : Prop := ∀ a, t.readIM a = s.readIM a

/-- Every word of data memory is unchanged. -/
def SameData (s t : State) : Prop := ∀ a, t.readDM a = s.readDM a

/-- `pc`, `ir`, C, V, the reset flag and the parameters are unchanged: no meaning writes them (10_state.md R27,
R29, R34, R38). -/
def SameControl (s t : State) : Prop :=
  t.pc = s.pc ∧ t.ir = s.ir ∧ t.c = s.c ∧ t.v = s.v ∧ t.resetFlag = s.resetFlag ∧ t.config = s.config

/-- N and Z are those of a result with unsigned value `f` below 65536 (41_alu.md R138). -/
def FlagsOf (f : Nat) (t : State) : Prop := (t.n = true ↔ 32768 ≤ f) ∧ (t.z = true ↔ f = 0)

/-- N and Z are unchanged. -/
def SameFlags (s t : State) : Prop := t.n = s.n ∧ t.z = s.z

/-- The effect of an ALU instruction: `x[d]` holds the unsigned value `f`, N and Z are its flags, the run
flag is `run`, and nothing else changes. -/
def AluEffect (s t : State) (rd : Field3) (f : Nat) (run : Bool) : Prop :=
  (t.reg rd).toNat = f ∧ FlagsOf f t ∧ t.running = run ∧
  SameRegistersBut rd s t ∧ SameInstructions s t ∧ SameData s t ∧ SameControl s t

/-- The effect of a load: `x[d]` holds the word at `x[a]` of data memory, and nothing else changes. -/
def LoadEffect (s t : State) (rd ra : Field3) : Prop :=
  t.reg rd = s.readDM (effectiveAddress s ra) ∧ SameFlags s t ∧ t.running = s.running ∧
  SameRegistersBut rd s t ∧ SameInstructions s t ∧ SameData s t ∧ SameControl s t

/-- The effect of a store at `x[a]` on memory: the word there is the literal `k`, every other word of both
memories is unchanged. -/
def StoresLiteral (s t : State) (ra k : Field3) : Prop :=
  (t.readDM (effectiveAddress s ra)).toNat = k.toNat ∧
  (∀ a, a ≠ effectiveAddress s ra → t.readDM a = s.readDM a) ∧ SameInstructions s t

/-- The effect of a store with flags: the literal stored, N and Z those of the value `f`, the run flag is
`run`, and nothing else changes. -/
def StoreEffect (s t : State) (ra k : Field3) (f : Nat) (run : Bool) : Prop :=
  StoresLiteral s t ra k ∧ FlagsOf f t ∧ t.running = run ∧ SameRegisters s t ∧ SameControl s t

/-- The effect of a branch's own cycle: N and Z are those of the value `f`, and nothing else changes. -/
def FlagEffect (s t : State) (f : Nat) : Prop :=
  FlagsOf f t ∧ t.running = s.running ∧ SameRegisters s t ∧ SameInstructions s t ∧ SameData s t ∧
  SameControl s t

/-! ## Values in plain arithmetic -/

/-- The displacement of a branch as an integer, by the table of 45_control_transfer.md R222: `8 * DA + BA`,
less 64 where DA reaches `5`, or `4` under `top_bit`. -/
def displacement (rule : BranchSignRule) (offHi offLo : Field3) : Int :=
  let firstNegative : Nat := match rule with | .topBit => 4 | .gt4 => 5
  8 * (offHi.toNat : Int) + offLo.toNat - if firstNegative ≤ offHi.toNat then 64 else 0

/-- The effect of a conditional branch with word `w`: its own cycle writes the flags of `f`; and, where `w` is
in `ir` at its address and the reset flag is spent, the next fetch is at the branch's address plus the
displacement if `taken`, and else at the word after it (45_control_transfer.md R220, R223). -/
def BranchEffect (s t : State) (w : Word) (offHi offLo : Field3) (f : Nat) (taken : Prop) : Prop :=
  FlagEffect s t f ∧
  (s.ir = w → s.resetFlag = false →
    (taken → nextPc t =
      s.pc + BitVec.ofInt 16 (displacement s.config.branchSignRule offHi offLo)) ∧
    (¬taken → nextPc t = s.pc + 1))

/-- The function unit's outputs for a result with unsigned value `f`, of a code other than 15. -/
def UnitOutput (o : FuOut) (f : Nat) : Prop :=
  o.f.toNat = f ∧ (o.n = true ↔ 32768 ≤ f) ∧ (o.z = true ↔ f = 0) ∧ o.halt = false ∧ o.dump = false

/-- The word runs code 15 in the function unit: the ranges of 46_system.md R263. -/
def Code15Word (w : Word) : Prop :=
  (0x1E00 ≤ w.toNat ∧ w.toNat ≤ 0x1FFF) ∨ (0x9E00 ≤ w.toNat ∧ w.toNat ≤ 0x9FFF) ∨
  (0x5E00 ≤ w.toNat ∧ w.toNat ≤ 0x5FFF)

/-- The operand fields of a word in their places (30_encoding.md R84): `d << 6 | a << 3 | b`. -/
def operandBits (d a b : Field3) : Word :=
  d.setWidth 16 <<< 6 ||| a.setWidth 16 <<< 3 ||| b.setWidth 16

/-- Operand fields under the four bits LD, LD.MB, ST.NF and JMP ignore: `f << 9` beside them (R81). -/
def operandBitsWith (f : FsCode) (d a b : Field3) : Word :=
  f.setWidth 16 <<< 9 ||| operandBits d a b

end Sys2Proof.Machine
end

