-- ==== Sys2Proof/Certificates/Slice0/Obligations.lean ====
section
/-! DEFINITION. The statements for the provers, each a proposition about the model; the frames they are made
of are in Safety.lean. -/

open Sys2Proof Sys2Proof.Machine

/-- Decoding an encoded instruction gives it back (30_encoding.md R80, 30_encoding.md R84). -/
def Obligations.DecodeEncode : Prop :=
  ∀ i : Instr, decode (encode i) = i

/-- Encoding a decoded word gives the word back but for the bits its instruction ignores (ST.HALT keeps its DA: the model's choice, log entry 7) (30_encoding.md R81, 30_encoding.md R84, 44_load_store.md R210).
The ignored bits are those of R81, but for one field: R81 lists DA as ignored for every ST.<op> and the assembler form of R84
writes it 0, while the `dump` variant of R210 reads x[DA]. That ST.HALT's DA is an operand and is kept is the
model's reading (log entry 7). -/
def Obligations.EncodeDecodeKeepsReadBits : Prop :=
  ∀ w : Word,
    encode (decode w) =
      match (fieldClass w).toNat with
      | 0 => w
      | 1 => w &&& 0xE1F8
      | 2 => if (fieldFs w).toNat = 15 then w else w &&& 0xFE3F
      | 3 => w &&& 0xE03F
      | 4 => w
      | 5 => w &&& 0xE1F8
      | 6 => w
      | _ => w &&& 0xE038

/-- Every word is covered by exactly one entry of the opcode map, that of its instruction (30_encoding.md R80, 30_encoding.md R76). -/
def Obligations.OpcodeMapPartitionsWords : Prop :=
  ∀ w : Word, ∃ r ∈ opcodeMap, r.covers w = true ∧ r.mnemonic = (decode w).mnemonic ∧
    ∀ r' ∈ opcodeMap, r'.covers w = true → r' = r

/-- Words written out from the spec decode to the instructions they stand for (30_encoding.md R80, 30_encoding.md R84, 46_system.md R265). -/
def Obligations.DecodeSampleWords : Prop :=
  decodeTableWord 16 0x04CA = some (.add 3 1 2) ∧
    decodeTableWord 16 0x84CD = some (.addi 3 1 5) ∧
    decodeTableWord 16 0x2200 = some (.ld 0 0) ∧
    decodeTableWord 16 0xA0C8 = some (.ldMb 3 1) ∧
    decodeTableWord 16 0x400A = some (.stMova 1 2) ∧
    decodeTableWord 16 0x600A = some (.stNf 1 2) ∧
    decodeTableWord 16 0xC140 = some (.brzMova 5 0 0) ∧
    decodeTableWord 16 0xDFFF = some (.brnShl 7 7 7) ∧
    decodeTableWord 16 0xE008 = some (.jmp 1) ∧
    decodeTableWord 16 0x1E00 = some Instr.hlt

/-- The decoder's address fields, select bits and enables (R71, R72, R73). -/
def Obligations.DecoderFieldsAndEnables : Prop :=
  ∀ w : Word,
    (bundle w).da.toNat = w.toNat / 64 % 8 ∧ (bundle w).aa.toNat = w.toNat / 8 % 8 ∧
    (bundle w).ba.toNat = w.toNat % 8 ∧
    ((bundle w).mb = true ↔ w.toNat / 32768 = 1) ∧
    ((bundle w).md = true ↔ w.toNat / 8192 % 2 = 1) ∧
    ((bundle w).rw = true ↔ w.toNat / 16384 % 2 = 0) ∧
    ((bundle w).mw = true ↔ w.toNat / 16384 = 1) ∧
    ((bundle w).pl = true ↔ w.toNat / 16384 = 3)

/-- The decoder's function select and branch selects, and the exclusive enables (30_encoding.md R74, 30_encoding.md R77). -/
def Obligations.DecoderFunctionSelect : Prop :=
  ∀ w : Word,
    (bundle w).jb = (bundle w).md ∧
    ((bundle w).bc = true ↔ w.toNat / 512 % 2 = 1) ∧
    (bundle w).fs.toNat =
      (if (bundle w).pl then w.toNat / 1024 % 8 * 2 else w.toNat / 512 % 16) ∧
    ((bundle w).pl = true → (bundle w).fs ≠ 15) ∧
    (bundle w).rw.toNat + (bundle w).mw.toNat + (bundle w).pl.toNat = 1

/-- The pseudo-instructions are the words the spec gives them (30_encoding.md R85). -/
def Obligations.PseudoInstructionWords : Prop :=
  encode Instr.nop = 0x0000 ∧ encode Instr.hlt = 0x1E00 ∧
    ∀ (s : State) (d a k h : Field3),
      encode (Instr.mov d a) = operandBits d a 0 ∧
      encode (Instr.ldi d k) = 0x9800 ||| operandBits d 0 k ∧
      encode (Instr.clr d) = 0x9800 ||| operandBits d 0 0 ∧
      encode (Instr.st a k) = 0x4000 ||| operandBits 0 a k ∧
      encode (Instr.brz h a k) = 0xC000 ||| operandBits h a k ∧
      encode (Instr.brn h a k) = 0xC200 ||| operandBits h a k ∧
      encode (Instr.br h) = 0xD000 ||| operandBits h 0 0 ∧
      ∃ t, exec (Instr.br h) s = .next t ∧ t.z = true

/-- The branch displacement is the table's, and the assembler's fields give it back (45_control_transfer.md R221, 45_control_transfer.md R222, 30_encoding.md R84, 92_eei_decisions.md D3).
The `top_bit` and `gt4` readings are the spec's parameter (D3); the statement holds for both. -/
def Obligations.BranchOffsetTable : Prop :=
  ∀ rule : BranchSignRule,
    (∀ h l : Field3, (branchOffset rule h l).toInt = displacement rule h l ∧
      displacementWellFormed rule (displacement rule h l) = true) ∧
    (∀ off : Int, displacementWellFormed rule off = true →
      displacement rule (displacementHi off) (displacementLo off) = off)

/-- The function unit's transfer and arithmetic codes, in plain arithmetic (R121, R122, R123, R124, R125, R126, R127, R128). -/
def Obligations.FunctionUnitArithmetic : Prop :=
  ∀ (variant : Fs15Variant) (a b xd : Word),
    let A := a.toNat
    let B := b.toNat
    UnitOutput (functionUnit variant 0 a b xd) A ∧
    UnitOutput (functionUnit variant 1 a b xd) ((A + 1) % 65536) ∧
    UnitOutput (functionUnit variant 2 a b xd) ((A + B) % 65536) ∧
    UnitOutput (functionUnit variant 3 a b xd) ((A + B + 1) % 65536) ∧
    UnitOutput (functionUnit variant 4 a b xd) ((A + (65535 - B)) % 65536) ∧
    UnitOutput (functionUnit variant 5 a b xd) ((A + (65535 - B) + 1) % 65536) ∧
    UnitOutput (functionUnit variant 6 a b xd) ((A + 65535) % 65536) ∧
    UnitOutput (functionUnit variant 7 a b xd) A

/-- The function unit's logic, transfer-B and shift codes, in plain arithmetic (R129, R130, R131, R132, R133, R134, R135). -/
def Obligations.FunctionUnitLogicAndShift : Prop :=
  ∀ (variant : Fs15Variant) (a b xd : Word),
    let A := a.toNat
    let B := b.toNat
    UnitOutput (functionUnit variant 8 a b xd) (A &&& B) ∧
    UnitOutput (functionUnit variant 9 a b xd) (A ||| B) ∧
    UnitOutput (functionUnit variant 10 a b xd) (A ^^^ B) ∧
    UnitOutput (functionUnit variant 11 a b xd) (65535 - A) ∧
    UnitOutput (functionUnit variant 12 a b xd) B ∧
    UnitOutput (functionUnit variant 13 a b xd) (B / 2) ∧
    UnitOutput (functionUnit variant 14 a b xd) (2 * B % 65536)

/-- The function unit's code 15 under both variants (41_alu.md R136, 41_alu.md R120, 92_eei_decisions.md D2).
That code 15 writes N and Z is the spec's own decision (92_eei_decisions.md D2). -/
def Obligations.FunctionUnitCode15 : Prop :=
  ∀ a b xd : Word,
    (let o := functionUnit .halt 15 a b xd
     o.f = a ∧ (o.n = true ↔ 32768 ≤ a.toNat) ∧ (o.z = true ↔ a.toNat = 0) ∧
       o.halt = true ∧ o.dump = false) ∧
    (let o := functionUnit .dump 15 a b xd
     o.f = xd ∧ (o.n = true ↔ 32768 ≤ xd.toNat) ∧ (o.z = true ↔ xd.toNat = 0) ∧
       o.halt = false ∧ o.dump = true)

/-- Register-form transfers and arithmetic: encoding, result, flags and frame (R150, R151, R152, R153, R154, R155, R156, R157). -/
def Obligations.RegisterArithmetic : Prop :=
  ∀ (s : State) (d a b : Field3),
    let A := (s.reg a).toNat
    let B := (s.reg b).toNat
    (decode (0x0000 ||| operandBits d a b) = .mova d a b ∧
      ∃ t, exec (.mova d a b) s = .next t ∧ AluEffect s t d A s.running) ∧
    (decode (0x0200 ||| operandBits d a b) = .inc d a b ∧
      ∃ t, exec (.inc d a b) s = .next t ∧ AluEffect s t d ((A + 1) % 65536) s.running) ∧
    (decode (0x0400 ||| operandBits d a b) = .add d a b ∧
      ∃ t, exec (.add d a b) s = .next t ∧ AluEffect s t d ((A + B) % 65536) s.running) ∧
    (decode (0x0600 ||| operandBits d a b) = .add1 d a b ∧
      ∃ t, exec (.add1 d a b) s = .next t ∧ AluEffect s t d ((A + B + 1) % 65536) s.running) ∧
    (decode (0x0800 ||| operandBits d a b) = .sub1 d a b ∧
      ∃ t, exec (.sub1 d a b) s = .next t ∧ AluEffect s t d ((A + (65535 - B)) % 65536) s.running) ∧
    (decode (0x0A00 ||| operandBits d a b) = .sub d a b ∧
      ∃ t, exec (.sub d a b) s = .next t ∧ AluEffect s t d ((A + (65535 - B) + 1) % 65536) s.running) ∧
    (decode (0x0C00 ||| operandBits d a b) = .dec d a b ∧
      ∃ t, exec (.dec d a b) s = .next t ∧ AluEffect s t d ((A + 65535) % 65536) s.running) ∧
    (decode (0x0E00 ||| operandBits d a b) = .mova2 d a b ∧
      ∃ t, exec (.mova2 d a b) s = .next t ∧ AluEffect s t d A s.running)

/-- Register-form logic, transfer-B and shifts: encoding, result, flags and frame (R158, R159, R160, R161, R162, R163, R164). -/
def Obligations.RegisterLogicAndShift : Prop :=
  ∀ (s : State) (d a b : Field3),
    let A := (s.reg a).toNat
    let B := (s.reg b).toNat
    (decode (0x1000 ||| operandBits d a b) = .and d a b ∧
      ∃ t, exec (.and d a b) s = .next t ∧ AluEffect s t d (A &&& B) s.running) ∧
    (decode (0x1200 ||| operandBits d a b) = .or d a b ∧
      ∃ t, exec (.or d a b) s = .next t ∧ AluEffect s t d (A ||| B) s.running) ∧
    (decode (0x1400 ||| operandBits d a b) = .xor d a b ∧
      ∃ t, exec (.xor d a b) s = .next t ∧ AluEffect s t d (A ^^^ B) s.running) ∧
    (decode (0x1600 ||| operandBits d a b) = .not d a b ∧
      ∃ t, exec (.not d a b) s = .next t ∧ AluEffect s t d (65535 - A) s.running) ∧
    (decode (0x1800 ||| operandBits d a b) = .movb d a b ∧
      ∃ t, exec (.movb d a b) s = .next t ∧ AluEffect s t d B s.running) ∧
    (decode (0x1A00 ||| operandBits d a b) = .shr d a b ∧
      ∃ t, exec (.shr d a b) s = .next t ∧ AluEffect s t d (B / 2) s.running) ∧
    (decode (0x1C00 ||| operandBits d a b) = .shl d a b ∧
      ∃ t, exec (.shl d a b) s = .next t ∧ AluEffect s t d (2 * B % 65536) s.running)

/-- Immediate-form transfers and arithmetic: encoding, result, flags and frame (43_alu_immediate.md R170 to R177, 30_encoding.md R78, 92_eei_decisions.md D12).
The zero extension of the 3-bit field is the spec's own decision (92_eei_decisions.md D12). -/
def Obligations.ImmediateArithmetic : Prop :=
  ∀ (s : State) (d a k : Field3),
    let A := (s.reg a).toNat
    let B := k.toNat
    (decode (0x8000 ||| operandBits d a k) = .movai d a k ∧
      ∃ t, exec (.movai d a k) s = .next t ∧ AluEffect s t d A s.running) ∧
    (decode (0x8200 ||| operandBits d a k) = .inci d a k ∧
      ∃ t, exec (.inci d a k) s = .next t ∧ AluEffect s t d ((A + 1) % 65536) s.running) ∧
    (decode (0x8400 ||| operandBits d a k) = .addi d a k ∧
      ∃ t, exec (.addi d a k) s = .next t ∧ AluEffect s t d ((A + B) % 65536) s.running) ∧
    (decode (0x8600 ||| operandBits d a k) = .add1i d a k ∧
      ∃ t, exec (.add1i d a k) s = .next t ∧ AluEffect s t d ((A + B + 1) % 65536) s.running) ∧
    (decode (0x8800 ||| operandBits d a k) = .sub1i d a k ∧
      ∃ t, exec (.sub1i d a k) s = .next t ∧ AluEffect s t d ((A + (65535 - B)) % 65536) s.running) ∧
    (decode (0x8A00 ||| operandBits d a k) = .subi d a k ∧
      ∃ t, exec (.subi d a k) s = .next t ∧ AluEffect s t d ((A + (65535 - B) + 1) % 65536) s.running) ∧
    (decode (0x8C00 ||| operandBits d a k) = .deci d a k ∧
      ∃ t, exec (.deci d a k) s = .next t ∧ AluEffect s t d ((A + 65535) % 65536) s.running) ∧
    (decode (0x8E00 ||| operandBits d a k) = .mova2i d a k ∧
      ∃ t, exec (.mova2i d a k) s = .next t ∧ AluEffect s t d A s.running)

/-- Immediate-form logic, transfer-B and shifts: encoding, result, flags and frame (43_alu_immediate.md R178 to R184, 30_encoding.md R78, 92_eei_decisions.md D12).
The zero extension of the 3-bit field is the spec's own decision (92_eei_decisions.md D12). -/
def Obligations.ImmediateLogicAndShift : Prop :=
  ∀ (s : State) (d a k : Field3),
    let A := (s.reg a).toNat
    let B := k.toNat
    (decode (0x9000 ||| operandBits d a k) = .andi d a k ∧
      ∃ t, exec (.andi d a k) s = .next t ∧ AluEffect s t d (A &&& B) s.running) ∧
    (decode (0x9200 ||| operandBits d a k) = .ori d a k ∧
      ∃ t, exec (.ori d a k) s = .next t ∧ AluEffect s t d (A ||| B) s.running) ∧
    (decode (0x9400 ||| operandBits d a k) = .xori d a k ∧
      ∃ t, exec (.xori d a k) s = .next t ∧ AluEffect s t d (A ^^^ B) s.running) ∧
    (decode (0x9600 ||| operandBits d a k) = .noti d a k ∧
      ∃ t, exec (.noti d a k) s = .next t ∧ AluEffect s t d (65535 - A) s.running) ∧
    (decode (0x9800 ||| operandBits d a k) = .movbi d a k ∧
      ∃ t, exec (.movbi d a k) s = .next t ∧ AluEffect s t d B s.running) ∧
    (decode (0x9A00 ||| operandBits d a k) = .shri d a k ∧
      ∃ t, exec (.shri d a k) s = .next t ∧ AluEffect s t d (B / 2) s.running) ∧
    (decode (0x9C00 ||| operandBits d a k) = .shli d a k ∧
      ∃ t, exec (.shli d a k) s = .next t ∧ AluEffect s t d (2 * B % 65536) s.running)

/-- HALT, HALTI and ST.HALT under both variants: encoding, effect and frame (42_alu_register.md R165, 43_alu_immediate.md R185, 44_load_store.md R210, 46_system.md R261, 46_system.md R262, 92_eei_decisions.md D2).
That code 15 writes N and Z is the spec's own decision (92_eei_decisions.md D2). -/
def Obligations.HaltForms : Prop :=
  ∀ (s : State) (d a b : Field3),
    let A := (s.reg a).toNat
    let D := (s.reg d).toNat
    (decode (0x1E00 ||| operandBits d a b) = .halt d a b ∧
      ∃ t, exec (.halt d a b) s = .next t ∧
        (s.config.fs15Variant = .halt → AluEffect s t d A false) ∧
        (s.config.fs15Variant = .dump → AluEffect s t d D s.running)) ∧
    (decode (0x9E00 ||| operandBits d a b) = .halti d a b ∧
      ∃ t, exec (.halti d a b) s = .next t ∧
        (s.config.fs15Variant = .halt → AluEffect s t d A false) ∧
        (s.config.fs15Variant = .dump → AluEffect s t d D s.running)) ∧
    (decode (0x5E00 ||| operandBits d a b) = .stHalt d a b ∧
      ∃ t, exec (.stHalt d a b) s = .next t ∧
        (s.config.fs15Variant = .halt → StoreEffect s t a b A false) ∧
        (s.config.fs15Variant = .dump → StoreEffect s t a b D s.running))

/-- LD and LD.MB: encoding, result, kept flags, successor and frame (R193, R194). -/
def Obligations.Loads : Prop :=
  ∀ (s : State) (f : FsCode) (d a x : Field3),
    (decode (0x2000 ||| operandBitsWith f d a x) = .ld d a ∧
      ∃ t, exec (.ld d a) s = .next t ∧ LoadEffect s t d a ∧
        (s.ir = 0x2000 ||| operandBitsWith f d a x → s.resetFlag = false →
          nextPc t = s.pc + 1)) ∧
    (decode (0xA000 ||| operandBitsWith f d a x) = .ldMb d a ∧
      ∃ t, exec (.ldMb d a) s = .next t ∧ LoadEffect s t d a ∧
        (s.ir = 0xA000 ||| operandBitsWith f d a x → s.resetFlag = false →
          nextPc t = s.pc + 1))

/-- Stores with transfer and arithmetic flags: encoding, stored literal, flags and frame (44_load_store.md R195 to R202, 44_load_store.md R192, 92_eei_decisions.md D12).
That the raw field is stored zero-extended is the spec's own decision (92_eei_decisions.md D12). -/
def Obligations.StoresArithmeticFlags : Prop :=
  ∀ (s : State) (d a k : Field3),
    let A := (s.reg a).toNat
    let B := (s.reg k).toNat
    (decode (0x4000 ||| operandBits d a k) = .stMova a k ∧
      ∃ t, exec (.stMova a k) s = .next t ∧ StoreEffect s t a k A s.running) ∧
    (decode (0x4200 ||| operandBits d a k) = .stInc a k ∧
      ∃ t, exec (.stInc a k) s = .next t ∧ StoreEffect s t a k ((A + 1) % 65536) s.running) ∧
    (decode (0x4400 ||| operandBits d a k) = .stAdd a k ∧
      ∃ t, exec (.stAdd a k) s = .next t ∧ StoreEffect s t a k ((A + B) % 65536) s.running) ∧
    (decode (0x4600 ||| operandBits d a k) = .stAdd1 a k ∧
      ∃ t, exec (.stAdd1 a k) s = .next t ∧ StoreEffect s t a k ((A + B + 1) % 65536) s.running) ∧
    (decode (0x4800 ||| operandBits d a k) = .stSub1 a k ∧
      ∃ t, exec (.stSub1 a k) s = .next t ∧ StoreEffect s t a k ((A + (65535 - B)) % 65536) s.running) ∧
    (decode (0x4A00 ||| operandBits d a k) = .stSub a k ∧
      ∃ t, exec (.stSub a k) s = .next t ∧ StoreEffect s t a k ((A + (65535 - B) + 1) % 65536) s.running) ∧
    (decode (0x4C00 ||| operandBits d a k) = .stDec a k ∧
      ∃ t, exec (.stDec a k) s = .next t ∧ StoreEffect s t a k ((A + 65535) % 65536) s.running) ∧
    (decode (0x4E00 ||| operandBits d a k) = .stMova2 a k ∧
      ∃ t, exec (.stMova2 a k) s = .next t ∧ StoreEffect s t a k A s.running)

/-- Stores with logic, transfer-B and shift flags: encoding, stored literal, flags and frame (44_load_store.md R203 to R209, 44_load_store.md R192, 92_eei_decisions.md D12).
That the raw field is stored zero-extended is the spec's own decision (92_eei_decisions.md D12). -/
def Obligations.StoresLogicAndShiftFlags : Prop :=
  ∀ (s : State) (d a k : Field3),
    let A := (s.reg a).toNat
    let B := (s.reg k).toNat
    (decode (0x5000 ||| operandBits d a k) = .stAnd a k ∧
      ∃ t, exec (.stAnd a k) s = .next t ∧ StoreEffect s t a k (A &&& B) s.running) ∧
    (decode (0x5200 ||| operandBits d a k) = .stOr a k ∧
      ∃ t, exec (.stOr a k) s = .next t ∧ StoreEffect s t a k (A ||| B) s.running) ∧
    (decode (0x5400 ||| operandBits d a k) = .stXor a k ∧
      ∃ t, exec (.stXor a k) s = .next t ∧ StoreEffect s t a k (A ^^^ B) s.running) ∧
    (decode (0x5600 ||| operandBits d a k) = .stNot a k ∧
      ∃ t, exec (.stNot a k) s = .next t ∧ StoreEffect s t a k (65535 - A) s.running) ∧
    (decode (0x5800 ||| operandBits d a k) = .stMovb a k ∧
      ∃ t, exec (.stMovb a k) s = .next t ∧ StoreEffect s t a k B s.running) ∧
    (decode (0x5A00 ||| operandBits d a k) = .stShr a k ∧
      ∃ t, exec (.stShr a k) s = .next t ∧ StoreEffect s t a k (B / 2) s.running) ∧
    (decode (0x5C00 ||| operandBits d a k) = .stShl a k ∧
      ∃ t, exec (.stShl a k) s = .next t ∧ StoreEffect s t a k (2 * B % 65536) s.running)

/-- ST.NF: encoding, stored literal, kept flags, successor and frame (44_load_store.md R211, 20_memory.md R61, 92_eei_decisions.md D12).
That the raw field is stored zero-extended is the spec's own decision (92_eei_decisions.md D12). -/
def Obligations.StoreKeepingFlags : Prop :=
  ∀ (s : State) (f : FsCode) (d a k : Field3),
    decode (0x6000 ||| operandBitsWith f d a k) = .stNf a k ∧
    ∃ t, exec (.stNf a k) s = .next t ∧ StoresLiteral s t a k ∧ SameFlags s t ∧
      t.running = s.running ∧ SameRegisters s t ∧ SameControl s t ∧
      (s.ir = 0x6000 ||| operandBitsWith f d a k → s.resetFlag = false → nextPc t = s.pc + 1)

/-- JMP: encoding, unchanged state in its own cycle, and the jump in the next (R228). -/
def Obligations.Jump : Prop :=
  ∀ (s : State) (f : FsCode) (d a x : Field3),
    decode (0xE000 ||| operandBitsWith f d a x) = .jmp a ∧
    ∃ t, exec (.jmp a) s = .next t ∧ t = s ∧
      (s.ir = 0xE000 ||| operandBitsWith f d a x → s.resetFlag = false → nextPc t = s.reg a)

/-- BRZ branches: encoding, own cycle, and where the next cycle fetches (45_control_transfer.md R229 to R236, 45_control_transfer.md R223, 45_control_transfer.md R245, 92_eei_decisions.md D3, 92_eei_decisions.md D4, 92_eei_decisions.md D12).
The sign rule, the 16-bit addition and the zero extension are the spec's own decisions (92_eei_decisions.md
D3, D4, D12). -/
def Obligations.BranchOnZero : Prop :=
  ∀ (s : State) (h a k : Field3),
    let A := (s.reg a).toNat
    let B := k.toNat
    (decode (0xC000 ||| operandBits h a k) = .brzMova h a k ∧
      ∃ t, exec (.brzMova h a k) s = .next t ∧
        BranchEffect s t (0xC000 ||| operandBits h a k) h k A (A = 0)) ∧
    (decode (0xC400 ||| operandBits h a k) = .brzAdd h a k ∧
      ∃ t, exec (.brzAdd h a k) s = .next t ∧
        BranchEffect s t (0xC400 ||| operandBits h a k) h k ((A + B) % 65536) ((A + B) % 65536 = 0)) ∧
    (decode (0xC800 ||| operandBits h a k) = .brzSub1 h a k ∧
      ∃ t, exec (.brzSub1 h a k) s = .next t ∧
        BranchEffect s t (0xC800 ||| operandBits h a k) h k ((A + (65535 - B)) % 65536) (A = B + 1)) ∧
    (decode (0xCC00 ||| operandBits h a k) = .brzDec h a k ∧
      ∃ t, exec (.brzDec h a k) s = .next t ∧
        BranchEffect s t (0xCC00 ||| operandBits h a k) h k ((A + 65535) % 65536) (A = 1)) ∧
    (decode (0xD000 ||| operandBits h a k) = .brzAnd h a k ∧
      ∃ t, exec (.brzAnd h a k) s = .next t ∧
        BranchEffect s t (0xD000 ||| operandBits h a k) h k (A &&& B) (A &&& B = 0)) ∧
    (decode (0xD400 ||| operandBits h a k) = .brzXor h a k ∧
      ∃ t, exec (.brzXor h a k) s = .next t ∧
        BranchEffect s t (0xD400 ||| operandBits h a k) h k (A ^^^ B) (A = B)) ∧
    (decode (0xD800 ||| operandBits h a k) = .brzMovb h a k ∧
      ∃ t, exec (.brzMovb h a k) s = .next t ∧
        BranchEffect s t (0xD800 ||| operandBits h a k) h k B (B = 0)) ∧
    (decode (0xDC00 ||| operandBits h a k) = .brzShl h a k ∧
      ∃ t, exec (.brzShl h a k) s = .next t ∧
        BranchEffect s t (0xDC00 ||| operandBits h a k) h k (2 * B % 65536) (B = 0))

/-- BRN branches: encoding, own cycle, and where the next cycle fetches (45_control_transfer.md R237 to R244, 45_control_transfer.md R223, 45_control_transfer.md R245, 92_eei_decisions.md D3, 92_eei_decisions.md D4, 92_eei_decisions.md D12).
The sign rule, the 16-bit addition and the zero extension are the spec's own decisions (92_eei_decisions.md
D3, D4, D12). -/
def Obligations.BranchOnNegative : Prop :=
  ∀ (s : State) (h a k : Field3),
    let A := (s.reg a).toNat
    let B := k.toNat
    (decode (0xC200 ||| operandBits h a k) = .brnMova h a k ∧
      ∃ t, exec (.brnMova h a k) s = .next t ∧
        BranchEffect s t (0xC200 ||| operandBits h a k) h k A (32768 ≤ A)) ∧
    (decode (0xC600 ||| operandBits h a k) = .brnAdd h a k ∧
      ∃ t, exec (.brnAdd h a k) s = .next t ∧
        BranchEffect s t (0xC600 ||| operandBits h a k) h k ((A + B) % 65536) (32768 ≤ (A + B) % 65536)) ∧
    (decode (0xCA00 ||| operandBits h a k) = .brnSub1 h a k ∧
      ∃ t, exec (.brnSub1 h a k) s = .next t ∧
        BranchEffect s t (0xCA00 ||| operandBits h a k) h k ((A + (65535 - B)) % 65536) (32768 ≤ (A + (65535 - B)) % 65536)) ∧
    (decode (0xCE00 ||| operandBits h a k) = .brnDec h a k ∧
      ∃ t, exec (.brnDec h a k) s = .next t ∧
        BranchEffect s t (0xCE00 ||| operandBits h a k) h k ((A + 65535) % 65536) (A = 0 ∨ 32769 ≤ A)) ∧
    (decode (0xD200 ||| operandBits h a k) = .brnAnd h a k ∧
      ∃ t, exec (.brnAnd h a k) s = .next t ∧
        BranchEffect s t (0xD200 ||| operandBits h a k) h k (A &&& B) False) ∧
    (decode (0xD600 ||| operandBits h a k) = .brnXor h a k ∧
      ∃ t, exec (.brnXor h a k) s = .next t ∧
        BranchEffect s t (0xD600 ||| operandBits h a k) h k (A ^^^ B) (32768 ≤ A)) ∧
    (decode (0xDA00 ||| operandBits h a k) = .brnMovb h a k ∧
      ∃ t, exec (.brnMovb h a k) s = .next t ∧
        BranchEffect s t (0xDA00 ||| operandBits h a k) h k B False) ∧
    (decode (0xDE00 ||| operandBits h a k) = .brnShl h a k ∧
      ∃ t, exec (.brnShl h a k) s = .next t ∧
        BranchEffect s t (0xDE00 ||| operandBits h a k) h k (2 * B % 65536) False)

/-- The branch/PC controller's five cases in their order (45_control_transfer.md R220, 45_control_transfer.md R225, 92_eei_decisions.md D3, 92_eei_decisions.md D4, 92_eei_decisions.md D5).
The sign rule, the 16-bit addition and the width of `pc` are the spec's own decisions (92_eei_decisions.md
D3, D4, D5). -/
def Obligations.ControllerCases : Prop :=
  ∀ s : State,
    let w := s.ir.toNat
    let displaced := s.pc + BitVec.ofInt 16
      (displacement s.config.branchSignRule (BitVec.ofNat 3 (w / 64)) (BitVec.ofNat 3 w))
    nextPc s =
      if s.resetFlag then 0
      else if w / 8192 = 7 then s.reg (BitVec.ofNat 3 (w / 8))
      else if w / 8192 = 6 ∧ w / 512 % 2 = 1 then (if s.n then displaced else s.pc + 1)
      else if w / 8192 = 6 then (if s.z then displaced else s.pc + 1)
      else s.pc + 1

/-- A step runs the decoded instruction (placing the word, and setting the run flag with it: the model's choice, log entry 8) (40_cycle.md R100 to R103, 40_cycle.md R108).
The first clause is the spec's cycle. The second is about placeAtFetch, by which the model stands for the host's load of
one word: that it puts the word at the next fetch of any state, halted or not, and sets the run flag to 1, is
the model's choice (log entry 8). -/
def Obligations.StepRunsDecodedInstruction : Prop :=
  ∀ s : State,
    (s.running = true →
      step s = exec (decode (s.readIM (nextPc s)))
        { s with pc := nextPc s, ir := s.readIM (nextPc s), resetFlag := false }) ∧
    (∀ w : Word,
      step (placeAtFetch s w) = exec (decode w)
        { s with pc := nextPc s, ir := w, resetFlag := false, running := true,
                 im := s.im.write (nextPc s) w })

/-- Every step is the spec's cycle function (40_cycle.md R109, 40_cycle.md R104 to R107, 92_eei_decisions.md D12).
The zero extension in R104 and R105 is the spec's own decision (92_eei_decisions.md D12). -/
def Obligations.StepIsCycle : Prop :=
  ∀ s : State, s.running = true → step s = .next (cycle s)

/-- The cycle view and the instruction-level view choose the same next address (40_cycle.md R113, 45_control_transfer.md R224). -/
def Obligations.SuccessorAgreesWithController : Prop :=
  ∀ s t : State, s.running = true → step s = .next t →
    t.pc = nextPc s ∧ t.ir = s.readIM (nextPc s) ∧ nextPc t = successor (decode t.ir) t.pc t

/-- No step faults or is refused (for a halted state, the model's choice: log entry 3) (60_exceptions.md R300, 30_encoding.md R76, 60_exceptions.md R311, 40_cycle.md R108).
For a running state this is R300 and R76. A halted state starts no cycle (R108) and keeps all its state (R311); that a
step of it answers a next state is the model's choice (log entry 3). -/
def Obligations.EveryStepAnswersNext : Prop :=
  ∀ s : State, ∃ t, step s = .next t

/-- A halted core keeps its whole state (the model's choice for a step after the end of a run, log entry 3) (60_exceptions.md R311, 40_cycle.md R108).
That a step of a halted core answers the same state is the model's choice (log entry 3). -/
def Obligations.HaltedCoreStays : Prop :=
  ∀ s : State, s.running = false → step s = .next s

/-- Every step keeps the machine's invariant (its canonical form of memory: the model's representation, log entry 2) (10_state.md R34, 10_state.md R39).
C and V at 0 and the three run states are R34 and R39. The canonical form of the two memories is the model's
representation (log entry 2), and so is the step of a halted state its choice (log entry 3). -/
def Obligations.InvariantKept : Prop :=
  ∀ s t : State, s.Inv → step s = .next t → t.Inv

/-- The invariant holds at reset and after every successful launch (its canonical form of memory: the model's representation, log entry 2) (70_reset_and_hazards.md R330, 70_reset_and_hazards.md R338, 10_state.md R34, 10_state.md R39).
The canonical form of the reset and of the loaded memories is the model's representation (log entry 2). -/
def Obligations.InvariantAtLaunch : Prop :=
  State.reset.Inv ∧
    ∀ (config : Config) (files : List ImageFile) (s : State), launch config files = .ok s → s.Inv

/-- Every launched run goes on safely for ever (steps after a halt and the canonical form: the model's choices, log entries 3 and 2) (60_exceptions.md R300, 40_cycle.md R108, 40_cycle.md R110, 70_reset_and_hazards.md R338).
A run that has halted has no further cycle (R108, R110); that steps after it go on answering the same state is the model's choice
(log entry 3), and the canonical form of the memories is its representation (log entry 2). -/
def Obligations.EveryLaunchedRunIsSafe : Prop :=
  ∀ (config : Config) (files : List ImageFile) (s : State), launch config files = .ok s → s.Safe

/-- The state right after reset (70_reset_and_hazards.md R330, 10_state.md R39, 92_eei_decisions.md D7, 92_eei_decisions.md D8, 92_eei_decisions.md D9, 92_eei_decisions.md D10).
The launch values of the registers, `pc`, `ir`, N, Z and instruction memory are the spec's own decisions
(92_eei_decisions.md D7 to D10). -/
def Obligations.ResetValues : Prop :=
  (∀ r : Field3, State.reset.reg r = 0) ∧ State.reset.pc = 0 ∧ State.reset.ir = 0 ∧
    State.reset.n = false ∧ State.reset.z = false ∧ State.reset.c = false ∧ State.reset.v = false ∧
    State.reset.resetFlag = true ∧ State.reset.running = true ∧
    State.reset.runState = some .awaitingReset ∧
    ∀ a : Word, State.reset.readIM a = 0 ∧ State.reset.readDM a = 0

/-- The first cycle executes the word at address 0, once, whatever pc and ir held (R331, R332). -/
def Obligations.FirstCycleStartsAtZero : Prop :=
  (∀ s : State, s.running = true → s.resetFlag = true →
      ∃ t, step s = .next t ∧ t.pc = 0 ∧ t.ir = s.readIM 0 ∧ t.resetFlag = false ∧
        step s = exec (decode (s.readIM 0)) { s with pc := 0, ir := s.readIM 0, resetFlag := false }) ∧
    (∀ s t : State, s.resetFlag = false → step s = .next t → t.resetFlag = false)

/-- The values of pc and ir before the first cycle cannot affect a run (70_reset_and_hazards.md R335). -/
def Obligations.PcAndIrBeforeResetAreIrrelevant : Prop :=
  ∀ (s : State) (p w : Word), s.running = true → s.resetFlag = true →
    step { s with pc := p, ir := w } = step s

/-- No step changes instruction memory or the parameters (20_memory.md R59, 20_memory.md R64, 00_scope.md R9). -/
def Obligations.InstructionMemoryAndParametersFixed : Prop :=
  ∀ s t : State, step s = .next t → t.im = s.im ∧ t.config = s.config

/-- The run flag is cleared exactly by code 15 under the halt variant (46_system.md R263, 10_state.md R38, 46_system.md R262). -/
def Obligations.RunEndsOnlyByCode15 : Prop :=
  ∀ s t : State, s.running = true → step s = .next t →
    (t.running = false ↔
      s.config.fs15Variant = .halt ∧ Code15Word (s.readIM (nextPc s)))

/-- A cycle with MD = 1 leaves the flags alone, and these cycles are LD, LD.MB, ST.NF and JMP (R33). -/
def Obligations.LoadPathKeepsFlags : Prop :=
  ∀ s t : State, s.running = true → step s = .next t →
    let w := s.readIM (nextPc s)
    (w.toNat / 8192 % 2 = 1 → SameFlags s t) ∧
    (w.toNat / 8192 % 2 = 1 ↔
      (∃ d a, decode w = .ld d a) ∨ (∃ d a, decode w = .ldMb d a) ∨
      (∃ a k, decode w = .stNf a k) ∨ ∃ a, decode w = .jmp a)

/-- A cycle with MD = 0 writes both flags from the function unit's result (10_state.md R32, 40_cycle.md R106). -/
def Obligations.FlagsFromFunctionUnit : Prop :=
  ∀ s t : State, s.running = true → step s = .next t →
    (s.readIM (nextPc s)).toNat / 8192 % 2 = 0 →
    FlagsOf (cycleFunctionUnit (bundle (s.readIM (nextPc s))) s).f.toNat t

/-- At most the register DA is written, with the cycle's result, and only when RW = 1 (R24). -/
def Obligations.RegisterWriteDiscipline : Prop :=
  ∀ s t : State, s.running = true → step s = .next t →
    let w := s.readIM (nextPc s)
    SameRegistersBut (fieldDa w) s t ∧
    t.reg (fieldDa w) =
      if w.toNat / 16384 % 2 = 0 then cycleResult (bundle w) s else s.reg (fieldDa w)

/-- Data memory changes only by a class 01 word, at x[AA], to the raw BA field (20_memory.md R52, 44_load_store.md R192, 92_eei_decisions.md D12).
That the raw field is stored zero-extended is the spec's own decision (92_eei_decisions.md D12). -/
def Obligations.DataMemoryWriteDiscipline : Prop :=
  ∀ s t : State, s.running = true → step s = .next t →
    let w := s.readIM (nextPc s)
    (w.toNat / 16384 = 1 → StoresLiteral s t (fieldAa w) (fieldBa w)) ∧
    (w.toNat / 16384 ≠ 1 → SameData s t) ∧
    ∀ a, t.readDM a = s.readDM a ∨ (t.readDM a).toNat ≤ 7

/-- C and V are 0, no step sets them, and nothing reads them (R34). -/
def Obligations.CarryAndOverflowReserved : Prop :=
  State.reset.c = false ∧ State.reset.v = false ∧
    (∀ s t : State, step s = .next t → t.c = s.c ∧ t.v = s.v) ∧
    ∀ (s t : State) (c v : Bool), step s = .next t →
      step { s with c := c, v := v } = .next { t with c := c, v := v }

/-- The packed status word (10_state.md R36, 92_eei_decisions.md D6).
The layout is the spec's own decision (92_eei_decisions.md D6). -/
def Obligations.StatusWordLayout : Prop :=
  ∀ s : State, s.statusWord.toNat =
    s.z.toNat + 2 * s.n.toNat + 4 * s.c.toNat + 8 * s.v.toNat

/-- Two memories in canonical form that read alike are equal (the model's representation, log entry 2) (10_state.md R40, 20_memory.md R60).
The canonical list is the model's choice of representation (log entry 2). -/
def Obligations.EqualReadsEqualMemories : Prop :=
  ∀ m m' : Memory, m.wf = true → m'.wf = true → (∀ a, m.read a = m'.read a) → m = m'

/-- A launch fills both memories from address 0 and leaves zero beyond (argument order: log entry 5) (70_reset_and_hazards.md R330, 70_reset_and_hazards.md R333, 70_reset_and_hazards.md R338, 92_eei_decisions.md D10).
The order of the two arguments is the model's choice (log entry 5); zero beyond the instruction image is the
spec's decision D10. -/
def Obligations.LaunchLoadsImages : Prop :=
  ∀ (config : Config) (im dm : List Nat), im.length ≤ 65536 → dm.length ≤ 65536 →
    (∀ v ∈ im, v ≤ 0xFFFF) → (∀ v ∈ dm, v ≤ 0xFFFF) →
    ∃ s, launch config [some (im.map .literal), some (dm.map .literal)] = .ok s ∧
      (∀ a : Word, (s.readIM a).toNat = im.getD a.toNat 0 ∧ (s.readDM a).toNat = dm.getD a.toNat 0) ∧
      s = { State.reset with im := s.im, dm := s.dm, config := config }

/-- A launch fails exactly on a wrong argument count, an unreadable file or an ill-formed image (70_reset_and_hazards.md R339, 92_eei_decisions.md D11).
Which malformed images fail is the spec's own decision (92_eei_decisions.md D11). -/
def Obligations.LaunchFailsExactlyOnBadInput : Prop :=
  ∀ (config : Config) (files : List ImageFile),
    (∃ s, launch config files = .ok s) ↔
      ∃ i d, files = [some i, some d] ∧ imageWellFormed i = true ∧ imageWellFormed d = true

/-- The end of a run is the state the halting instruction leaves, and more fuel does not change it (steps after the end: the model's choice, log entry 3) (40_cycle.md R110, 40_cycle.md R111, 70_reset_and_hazards.md R344, 92_eei_decisions.md D19).
What counts as the end of a run is the spec's own decision (92_eei_decisions.md D19). That k steps of the core give the final
state although the run ended before is the model's choice (log entry 3: a step of a halted core answers the same state). -/
def Obligations.RunEnd : Prop :=
  ∀ (k : Nat) (s t : State), s.running = true → runUntilHalt k s = some t →
    t.running = false ∧ t.ir = t.readIM t.pc ∧ Code15Word t.ir ∧ t.config.fs15Variant = .halt ∧
    Host.Core.run Sys2Proof.core k s = .next t ∧
    ∀ j, k ≤ j → runUntilHalt j s = some t

/-- Under the dump variant no run ends (46_system.md R262, 92_eei_decisions.md D21).
The details of the `dump` variant are the spec's own decision (92_eei_decisions.md D21). -/
def Obligations.DumpVariantNeverEnds : Prop :=
  ∀ s : State, s.running = true → s.config.fs15Variant = .dump →
    ∀ k, ∃ t, Host.Core.run Sys2Proof.core k s = .next t ∧ t.running = true

/-- A cycle hands the host a dump exactly for code 15 under the dump variant (its content: log entry 4) (46_system.md R262, 60_exceptions.md R310, 92_eei_decisions.md D21).
What a dump holds is the model's reading (log entry 4). -/
def Obligations.DumpIsOutputOfCode15 : Prop :=
  ∀ s t : State, s.running = true → step s = .next t →
    (s.config.fs15Variant = .dump → Code15Word (s.readIM (nextPc s)) →
      stepDump s = some { registers := t.x, instructionMemory := t.im, dataMemory := t.dm }) ∧
    (s.config.fs15Variant = .dump → ¬Code15Word (s.readIM (nextPc s)) → stepDump s = none) ∧
    (s.config.fs15Variant = .halt → stepDump s = none)
end

