-- ==== Sys2Proof/Laws/Decode.lean ====
section
/-! SUPPORT. The fields of an assembled word, and every word as the assembly of its fields. -/

namespace Sys2Proof

variable (cls : BitVec 3) (f : FsCode) (d a b : Field3)

/-- Bit `i` of an assembled word, by the field it lies in (30_encoding.md R70). -/
theorem getLsbD_assemble (i : Nat) :
    (assemble cls f d a b).getLsbD i =
      if i < 3 then b.getLsbD i
      else if i < 6 then a.getLsbD (i - 3)
      else if i < 9 then d.getLsbD (i - 6)
      else if i < 13 then f.getLsbD (i - 9)
      else cls.getLsbD (i - 13) := by
  simp only [assemble, BitVec.getLsbD_append, Nat.sub_sub]
  split_ifs <;> first | rfl | omega

@[simp] theorem fieldBa_assemble : fieldBa (assemble cls f d a b) = b := by
  ext i hi; simp [fieldBa, getLsbD_assemble, hi]

@[simp] theorem fieldAa_assemble : fieldAa (assemble cls f d a b) = a := by
  ext i hi
  simp [fieldAa, getLsbD_assemble, hi, show 3 + i < 6 by omega]

@[simp] theorem fieldDa_assemble : fieldDa (assemble cls f d a b) = d := by
  ext i hi
  simp [fieldDa, getLsbD_assemble, hi, show ¬ 6 + i < 3 by omega, show ¬ 6 + i < 6 by omega,
    show 6 + i < 9 by omega]

@[simp] theorem fieldFs_assemble : fieldFs (assemble cls f d a b) = f := by
  ext i hi
  simp [fieldFs, getLsbD_assemble, hi, show ¬ 9 + i < 3 by omega, show ¬ 9 + i < 6 by omega,
    show ¬ 9 + i < 9 by omega, show 9 + i < 13 by omega]

@[simp] theorem fieldClass_assemble : fieldClass (assemble cls f d a b) = cls := by
  ext i hi
  simp [fieldClass, getLsbD_assemble, hi, show ¬ 13 + i < 3 by omega, show ¬ 13 + i < 6 by omega,
    show ¬ 13 + i < 9 by omega, show ¬ 13 + i < 13 by omega]

/-- The branch selects of an assembled word: BC and `w[12:10]` are parts of its function-select bits. -/
@[simp] theorem bc_assemble : (assemble cls f d a b)[9] = f[0] := by
  rw [← BitVec.getLsbD_eq_getElem, getLsbD_assemble]; rfl

@[simp] theorem fsHigh_assemble :
    (assemble cls f d a b).extractLsb' 10 3 = f.extractLsb' 1 3 := by
  ext i hi
  simp [getLsbD_assemble, show ¬ 10 + i < 3 by omega, show ¬ 10 + i < 6 by omega,
    show ¬ 10 + i < 9 by omega, show 10 + i < 13 by omega, show 10 + i - 9 = 1 + i by omega]

/-- The class bits, as the decoder reads them one by one (R72, R73). -/
@[simp] theorem mb_assemble : (assemble cls f d a b)[15] = cls[2] := by
  rw [← BitVec.getLsbD_eq_getElem, getLsbD_assemble]; rfl

@[simp] theorem bit14_assemble : (assemble cls f d a b)[14] = cls[1] := by
  rw [← BitVec.getLsbD_eq_getElem, getLsbD_assemble]; rfl

@[simp] theorem md_assemble : (assemble cls f d a b)[13] = cls[0] := by
  rw [← BitVec.getLsbD_eq_getElem, getLsbD_assemble]; rfl

/-- Every word is the assembly of its fields: the layout of R70 covers all 16 bits. -/
theorem assemble_fields (w : Word) :
    assemble (fieldClass w) (fieldFs w) (fieldDa w) (fieldAa w) (fieldBa w) = w := by
  ext i hi
  rw [← BitVec.getLsbD_eq_getElem, ← BitVec.getLsbD_eq_getElem, getLsbD_assemble]
  simp only [fieldClass, fieldFs, fieldDa, fieldAa, fieldBa, BitVec.getLsbD_extractLsb']
  interval_cases i <;> simp

/-- The mask 0xFE00 keeps the class and function-select bits and clears the operand fields. -/
theorem assemble_and_mask7 :
    assemble cls f d a b &&& 0xFE00 = assemble cls f 0 0 0 := by
  ext i hi
  simp only [← BitVec.getLsbD_eq_getElem, BitVec.getLsbD_and, getLsbD_assemble]
  interval_cases i <;> simp

/-- The mask 0xE000 keeps the class bits. -/
theorem assemble_and_mask3 :
    assemble cls f d a b &&& 0xE000 = assemble cls 0 0 0 0 := by
  ext i hi
  simp only [← BitVec.getLsbD_eq_getElem, BitVec.getLsbD_and, getLsbD_assemble]
  interval_cases i <;> simp

end Sys2Proof
end

