-- ==== Sys2Proof/Laws/State.lean ====
section
/-! SUPPORT. What each state update does to each field, one lemma per field per update, and what it does to
the accessors `reg`, `readDM` and `readIM`. No later proof unfolds a record update. -/

namespace Sys2Proof.Machine

/-! ## `setReg` -/

@[simp] theorem setReg_x (s : State) (i : Field3) (w : Word) : (s.setReg i w).x = s.x.set i.toNat w i.isLt := rfl
@[simp] theorem setReg_pc (s : State) (i : Field3) (w : Word) : (s.setReg i w).pc = s.pc := rfl
@[simp] theorem setReg_ir (s : State) (i : Field3) (w : Word) : (s.setReg i w).ir = s.ir := rfl
@[simp] theorem setReg_n (s : State) (i : Field3) (w : Word) : (s.setReg i w).n = s.n := rfl
@[simp] theorem setReg_z (s : State) (i : Field3) (w : Word) : (s.setReg i w).z = s.z := rfl
@[simp] theorem setReg_c (s : State) (i : Field3) (w : Word) : (s.setReg i w).c = s.c := rfl
@[simp] theorem setReg_v (s : State) (i : Field3) (w : Word) : (s.setReg i w).v = s.v := rfl
@[simp] theorem setReg_resetFlag (s : State) (i : Field3) (w : Word) : (s.setReg i w).resetFlag = s.resetFlag := rfl
@[simp] theorem setReg_running (s : State) (i : Field3) (w : Word) : (s.setReg i w).running = s.running := rfl
@[simp] theorem setReg_im (s : State) (i : Field3) (w : Word) : (s.setReg i w).im = s.im := rfl
@[simp] theorem setReg_dm (s : State) (i : Field3) (w : Word) : (s.setReg i w).dm = s.dm := rfl
@[simp] theorem setReg_config (s : State) (i : Field3) (w : Word) : (s.setReg i w).config = s.config := rfl

/-! ## `setFlags` -/

@[simp] theorem setFlags_x (s : State) (f : Word) : (s.setFlags f).x = s.x := rfl
@[simp] theorem setFlags_pc (s : State) (f : Word) : (s.setFlags f).pc = s.pc := rfl
@[simp] theorem setFlags_ir (s : State) (f : Word) : (s.setFlags f).ir = s.ir := rfl
@[simp] theorem setFlags_n (s : State) (f : Word) : (s.setFlags f).n = negativeFlag f := rfl
@[simp] theorem setFlags_z (s : State) (f : Word) : (s.setFlags f).z = zeroFlag f := rfl
@[simp] theorem setFlags_c (s : State) (f : Word) : (s.setFlags f).c = s.c := rfl
@[simp] theorem setFlags_v (s : State) (f : Word) : (s.setFlags f).v = s.v := rfl
@[simp] theorem setFlags_resetFlag (s : State) (f : Word) : (s.setFlags f).resetFlag = s.resetFlag := rfl
@[simp] theorem setFlags_running (s : State) (f : Word) : (s.setFlags f).running = s.running := rfl
@[simp] theorem setFlags_im (s : State) (f : Word) : (s.setFlags f).im = s.im := rfl
@[simp] theorem setFlags_dm (s : State) (f : Word) : (s.setFlags f).dm = s.dm := rfl
@[simp] theorem setFlags_config (s : State) (f : Word) : (s.setFlags f).config = s.config := rfl

/-! ## `writeDM` -/

@[simp] theorem writeDM_x (s : State) (a w : Word) : (s.writeDM a w).x = s.x := rfl
@[simp] theorem writeDM_pc (s : State) (a w : Word) : (s.writeDM a w).pc = s.pc := rfl
@[simp] theorem writeDM_ir (s : State) (a w : Word) : (s.writeDM a w).ir = s.ir := rfl
@[simp] theorem writeDM_n (s : State) (a w : Word) : (s.writeDM a w).n = s.n := rfl
@[simp] theorem writeDM_z (s : State) (a w : Word) : (s.writeDM a w).z = s.z := rfl
@[simp] theorem writeDM_c (s : State) (a w : Word) : (s.writeDM a w).c = s.c := rfl
@[simp] theorem writeDM_v (s : State) (a w : Word) : (s.writeDM a w).v = s.v := rfl
@[simp] theorem writeDM_resetFlag (s : State) (a w : Word) : (s.writeDM a w).resetFlag = s.resetFlag := rfl
@[simp] theorem writeDM_running (s : State) (a w : Word) : (s.writeDM a w).running = s.running := rfl
@[simp] theorem writeDM_im (s : State) (a w : Word) : (s.writeDM a w).im = s.im := rfl
@[simp] theorem writeDM_dm (s : State) (a w : Word) : (s.writeDM a w).dm = s.dm.write a w := rfl
@[simp] theorem writeDM_config (s : State) (a w : Word) : (s.writeDM a w).config = s.config := rfl

/-! ## `stop` -/

@[simp] theorem stop_x (s : State) : (s.stop).x = s.x := rfl
@[simp] theorem stop_pc (s : State) : (s.stop).pc = s.pc := rfl
@[simp] theorem stop_ir (s : State) : (s.stop).ir = s.ir := rfl
@[simp] theorem stop_n (s : State) : (s.stop).n = s.n := rfl
@[simp] theorem stop_z (s : State) : (s.stop).z = s.z := rfl
@[simp] theorem stop_c (s : State) : (s.stop).c = s.c := rfl
@[simp] theorem stop_v (s : State) : (s.stop).v = s.v := rfl
@[simp] theorem stop_resetFlag (s : State) : (s.stop).resetFlag = s.resetFlag := rfl
@[simp] theorem stop_running (s : State) : (s.stop).running = false := rfl
@[simp] theorem stop_im (s : State) : (s.stop).im = s.im := rfl
@[simp] theorem stop_dm (s : State) : (s.stop).dm = s.dm := rfl
@[simp] theorem stop_config (s : State) : (s.stop).config = s.config := rfl

/-! ## `discardRead` -/

@[simp] theorem discardRead_x (s : State) (a : Word) : (s.discardRead a).x = s.x := rfl
@[simp] theorem discardRead_pc (s : State) (a : Word) : (s.discardRead a).pc = s.pc := rfl
@[simp] theorem discardRead_ir (s : State) (a : Word) : (s.discardRead a).ir = s.ir := rfl
@[simp] theorem discardRead_n (s : State) (a : Word) : (s.discardRead a).n = s.n := rfl
@[simp] theorem discardRead_z (s : State) (a : Word) : (s.discardRead a).z = s.z := rfl
@[simp] theorem discardRead_c (s : State) (a : Word) : (s.discardRead a).c = s.c := rfl
@[simp] theorem discardRead_v (s : State) (a : Word) : (s.discardRead a).v = s.v := rfl
@[simp] theorem discardRead_resetFlag (s : State) (a : Word) : (s.discardRead a).resetFlag = s.resetFlag := rfl
@[simp] theorem discardRead_running (s : State) (a : Word) : (s.discardRead a).running = s.running := rfl
@[simp] theorem discardRead_im (s : State) (a : Word) : (s.discardRead a).im = s.im := rfl
@[simp] theorem discardRead_dm (s : State) (a : Word) : (s.discardRead a).dm = s.dm := rfl
@[simp] theorem discardRead_config (s : State) (a : Word) : (s.discardRead a).config = s.config := rfl

/-! ## `controllerPhase` -/

@[simp] theorem controllerPhase_x (s : State) : (controllerPhase s).x = s.x := rfl
@[simp] theorem controllerPhase_pc (s : State) : (controllerPhase s).pc = nextPc s := rfl
@[simp] theorem controllerPhase_ir (s : State) : (controllerPhase s).ir = s.ir := rfl
@[simp] theorem controllerPhase_n (s : State) : (controllerPhase s).n = s.n := rfl
@[simp] theorem controllerPhase_z (s : State) : (controllerPhase s).z = s.z := rfl
@[simp] theorem controllerPhase_c (s : State) : (controllerPhase s).c = s.c := rfl
@[simp] theorem controllerPhase_v (s : State) : (controllerPhase s).v = s.v := rfl
@[simp] theorem controllerPhase_resetFlag (s : State) : (controllerPhase s).resetFlag = false := rfl
@[simp] theorem controllerPhase_running (s : State) : (controllerPhase s).running = s.running := rfl
@[simp] theorem controllerPhase_im (s : State) : (controllerPhase s).im = s.im := rfl
@[simp] theorem controllerPhase_dm (s : State) : (controllerPhase s).dm = s.dm := rfl
@[simp] theorem controllerPhase_config (s : State) : (controllerPhase s).config = s.config := rfl

/-! ## `fetchPhase` -/

@[simp] theorem fetchPhase_x (s : State) : (fetchPhase s).x = s.x := rfl
@[simp] theorem fetchPhase_pc (s : State) : (fetchPhase s).pc = s.pc := rfl
@[simp] theorem fetchPhase_ir (s : State) : (fetchPhase s).ir = s.readIM s.pc := rfl
@[simp] theorem fetchPhase_n (s : State) : (fetchPhase s).n = s.n := rfl
@[simp] theorem fetchPhase_z (s : State) : (fetchPhase s).z = s.z := rfl
@[simp] theorem fetchPhase_c (s : State) : (fetchPhase s).c = s.c := rfl
@[simp] theorem fetchPhase_v (s : State) : (fetchPhase s).v = s.v := rfl
@[simp] theorem fetchPhase_resetFlag (s : State) : (fetchPhase s).resetFlag = s.resetFlag := rfl
@[simp] theorem fetchPhase_running (s : State) : (fetchPhase s).running = s.running := rfl
@[simp] theorem fetchPhase_im (s : State) : (fetchPhase s).im = s.im := rfl
@[simp] theorem fetchPhase_dm (s : State) : (fetchPhase s).dm = s.dm := rfl
@[simp] theorem fetchPhase_config (s : State) : (fetchPhase s).config = s.config := rfl

/-! ## `placeAtFetch` -/

@[simp] theorem placeAtFetch_x (s : State) (w : Word) : (placeAtFetch s w).x = s.x := rfl
@[simp] theorem placeAtFetch_pc (s : State) (w : Word) : (placeAtFetch s w).pc = s.pc := rfl
@[simp] theorem placeAtFetch_ir (s : State) (w : Word) : (placeAtFetch s w).ir = s.ir := rfl
@[simp] theorem placeAtFetch_n (s : State) (w : Word) : (placeAtFetch s w).n = s.n := rfl
@[simp] theorem placeAtFetch_z (s : State) (w : Word) : (placeAtFetch s w).z = s.z := rfl
@[simp] theorem placeAtFetch_c (s : State) (w : Word) : (placeAtFetch s w).c = s.c := rfl
@[simp] theorem placeAtFetch_v (s : State) (w : Word) : (placeAtFetch s w).v = s.v := rfl
@[simp] theorem placeAtFetch_resetFlag (s : State) (w : Word) : (placeAtFetch s w).resetFlag = s.resetFlag := rfl
@[simp] theorem placeAtFetch_running (s : State) (w : Word) : (placeAtFetch s w).running = true := rfl
@[simp] theorem placeAtFetch_im (s : State) (w : Word) : (placeAtFetch s w).im = s.im.write (nextPc s) w := rfl
@[simp] theorem placeAtFetch_dm (s : State) (w : Word) : (placeAtFetch s w).dm = s.dm := rfl
@[simp] theorem placeAtFetch_config (s : State) (w : Word) : (placeAtFetch s w).config = s.config := rfl

/-! ## `code15`: only the run flag, and only under `halt` -/

@[simp] theorem code15_x (s : State) : s.code15.x = s.x := by
  unfold State.code15; split <;> rfl
@[simp] theorem code15_pc (s : State) : s.code15.pc = s.pc := by
  unfold State.code15; split <;> rfl
@[simp] theorem code15_ir (s : State) : s.code15.ir = s.ir := by
  unfold State.code15; split <;> rfl
@[simp] theorem code15_n (s : State) : s.code15.n = s.n := by
  unfold State.code15; split <;> rfl
@[simp] theorem code15_z (s : State) : s.code15.z = s.z := by
  unfold State.code15; split <;> rfl
@[simp] theorem code15_c (s : State) : s.code15.c = s.c := by
  unfold State.code15; split <;> rfl
@[simp] theorem code15_v (s : State) : s.code15.v = s.v := by
  unfold State.code15; split <;> rfl
@[simp] theorem code15_resetFlag (s : State) : s.code15.resetFlag = s.resetFlag := by
  unfold State.code15; split <;> rfl
@[simp] theorem code15_running (s : State) :
    s.code15.running = (s.running && s.config.fs15Variant != .halt) := by
  unfold State.code15; split <;> simp_all
@[simp] theorem code15_im (s : State) : s.code15.im = s.im := by
  unfold State.code15; split <;> rfl
@[simp] theorem code15_dm (s : State) : s.code15.dm = s.dm := by
  unfold State.code15; split <;> rfl
@[simp] theorem code15_config (s : State) : s.code15.config = s.config := by
  unfold State.code15; split <;> rfl

/-! ## Accessors -/

/-- A register read after a register write: the value written, or the register as it was. -/
theorem reg_setReg (s : State) (i j : Field3) (w : Word) :
    (s.setReg i w).reg j = if j = i then w else s.reg j := by
  simp only [State.reg, setReg_x, Vector.getElem_set, BitVec.toNat_inj, eq_comm]

@[simp] theorem reg_setReg_self (s : State) (i : Field3) (w : Word) : (s.setReg i w).reg i = w := by
  simp [reg_setReg]

/-- The accessors depend on their own field only. -/
theorem reg_congr {s t : State} (h : t.x = s.x) (i : Field3) : t.reg i = s.reg i := by
  simp [State.reg, h]

theorem readDM_congr {s t : State} (h : t.dm = s.dm) (a : Word) : t.readDM a = s.readDM a := by
  simp [State.readDM, h]

theorem readIM_congr {s t : State} (h : t.im = s.im) (a : Word) : t.readIM a = s.readIM a := by
  simp [State.readIM, h]

@[simp] theorem readDM_setReg (s : State) (i : Field3) (w : Word) (p : Word) :
    (s.setReg i w).readDM p = s.readDM p := readDM_congr (by simp) p
@[simp] theorem readIM_setReg (s : State) (i : Field3) (w : Word) (p : Word) :
    (s.setReg i w).readIM p = s.readIM p := readIM_congr (by simp) p
@[simp] theorem reg_setFlags (s : State) (f : Word) (r : Field3) :
    (s.setFlags f).reg r = s.reg r := reg_congr (by simp) r
@[simp] theorem readDM_setFlags (s : State) (f : Word) (p : Word) :
    (s.setFlags f).readDM p = s.readDM p := readDM_congr (by simp) p
@[simp] theorem readIM_setFlags (s : State) (f : Word) (p : Word) :
    (s.setFlags f).readIM p = s.readIM p := readIM_congr (by simp) p
@[simp] theorem reg_writeDM (s : State) (a w : Word) (r : Field3) :
    (s.writeDM a w).reg r = s.reg r := reg_congr (by simp) r
@[simp] theorem readIM_writeDM (s : State) (a w : Word) (p : Word) :
    (s.writeDM a w).readIM p = s.readIM p := readIM_congr (by simp) p
@[simp] theorem reg_stop (s : State) (r : Field3) :
    (s.stop).reg r = s.reg r := reg_congr (by simp) r
@[simp] theorem readDM_stop (s : State) (p : Word) :
    (s.stop).readDM p = s.readDM p := readDM_congr (by simp) p
@[simp] theorem readIM_stop (s : State) (p : Word) :
    (s.stop).readIM p = s.readIM p := readIM_congr (by simp) p
@[simp] theorem reg_discardRead (s : State) (a : Word) (r : Field3) :
    (s.discardRead a).reg r = s.reg r := reg_congr (by simp) r
@[simp] theorem readDM_discardRead (s : State) (a : Word) (p : Word) :
    (s.discardRead a).readDM p = s.readDM p := readDM_congr (by simp) p
@[simp] theorem readIM_discardRead (s : State) (a : Word) (p : Word) :
    (s.discardRead a).readIM p = s.readIM p := readIM_congr (by simp) p
@[simp] theorem reg_controllerPhase (s : State) (r : Field3) :
    (controllerPhase s).reg r = s.reg r := reg_congr (by simp) r
@[simp] theorem readDM_controllerPhase (s : State) (p : Word) :
    (controllerPhase s).readDM p = s.readDM p := readDM_congr (by simp) p
@[simp] theorem readIM_controllerPhase (s : State) (p : Word) :
    (controllerPhase s).readIM p = s.readIM p := readIM_congr (by simp) p
@[simp] theorem reg_fetchPhase (s : State) (r : Field3) :
    (fetchPhase s).reg r = s.reg r := reg_congr (by simp) r
@[simp] theorem readDM_fetchPhase (s : State) (p : Word) :
    (fetchPhase s).readDM p = s.readDM p := readDM_congr (by simp) p
@[simp] theorem readIM_fetchPhase (s : State) (p : Word) :
    (fetchPhase s).readIM p = s.readIM p := readIM_congr (by simp) p
@[simp] theorem reg_placeAtFetch (s : State) (w : Word) (r : Field3) :
    (placeAtFetch s w).reg r = s.reg r := reg_congr (by simp) r
@[simp] theorem readDM_placeAtFetch (s : State) (w : Word) (p : Word) :
    (placeAtFetch s w).readDM p = s.readDM p := readDM_congr (by simp) p
@[simp] theorem reg_code15 (s : State) (r : Field3) :
    (s.code15).reg r = s.reg r := reg_congr (by simp) r
@[simp] theorem readDM_code15 (s : State) (p : Word) :
    (s.code15).readDM p = s.readDM p := readDM_congr (by simp) p
@[simp] theorem readIM_code15 (s : State) (p : Word) :
    (s.code15).readIM p = s.readIM p := readIM_congr (by simp) p

end Sys2Proof.Machine
end

