-- ==== Sys2Proof/Laws/Memory.lean ====
section
/-! SUPPORT. The memory laws: what a read gives after each operation, on every list of entries, and that
every operation keeps the canonical form. -/

namespace Sys2Proof.Machine

/-! ## Reads -/

@[simp] theorem read_nil (a : Word) : Memory.read [] a = unlistedWord := rfl

theorem read_cons (k : Nat) (w : Word) (m : Memory) (a : Word) :
    Memory.read ((k, w) :: m) a = if k = a.toNat then w else m.read a := rfl

/-- An erased address reads as unlisted; every other address reads as before. -/
theorem read_erase (m : Memory) (a p : Word) :
    (m.erase a).read p = if p = a then unlistedWord else m.read p := by
  induction m with
  | nil => simp [Memory.erase]
  | cons e m ih =>
    obtain ⟨k, w⟩ := e
    by_cases h : k = a.toNat
    · by_cases hp : p = a
      · subst hp; simpa [Memory.erase, h] using ih
      · have : a.toNat ≠ p.toNat := fun e => hp (BitVec.toNat_inj.mp e.symm)
        simp [Memory.erase, read_cons, h, hp, ih, this]
    · by_cases hp : p = a
      · subst hp; simp [Memory.erase, read_cons, h, ih]
      · simp [Memory.erase, read_cons, h, hp, ih]

/-- An inserted address that had no entry reads as inserted; every other address reads as before. -/
theorem read_insert (m : Memory) (a w p : Word) (h : m.read a = unlistedWord ∨ p ≠ a)
    (hk : ∀ e ∈ m, e.1 ≠ a.toNat) :
    (m.insert a w).read p = if p = a then w else m.read p := by
  induction m with
  | nil =>
    by_cases hp : p = a
    · simp [Memory.insert, read_cons, hp]
    · have : a.toNat ≠ p.toNat := fun e => hp (BitVec.toNat_inj.mp e.symm)
      simp [Memory.insert, read_cons, hp, this]
  | cons e m ih =>
    obtain ⟨k, u⟩ := e
    have hka : k ≠ a.toNat := hk (k, u) (by simp)
    have ih' := ih (h.imp_left (by simp [read_cons, hka])) fun e he => hk e (by simp [he])
    by_cases hlt : a.toNat < k
    · by_cases hp : p = a
      · simp [Memory.insert, hlt, read_cons, hp]
      · have : a.toNat ≠ p.toNat := fun e => hp (BitVec.toNat_inj.mp e.symm)
        simp [Memory.insert, hlt, read_cons, hp, this]
    · by_cases hp : p = a
      · subst hp; simp [Memory.insert, hlt, read_cons, hka, ih']
      · simp [Memory.insert, hlt, read_cons, hp, ih']

theorem erase_keys_ne (m : Memory) (a : Word) : ∀ e ∈ m.erase a, e.1 ≠ a.toNat := by
  induction m with
  | nil => simp [Memory.erase]
  | cons e m ih =>
    obtain ⟨k, w⟩ := e
    by_cases h : k = a.toNat
    · simpa [Memory.erase, h] using ih
    · intro e he
      simp only [Memory.erase, h, if_false, List.mem_cons] at he
      rcases he with rfl | he
      · exact h
      · exact ih e he

/-- A word written reads back, and every other address reads as before: on every memory, canonical or
not. -/
theorem read_write (m : Memory) (a w p : Word) :
    (m.write a w).read p = if p = a then w else m.read p := by
  unfold Memory.write
  split
  · next h => rw [read_erase, h]
  · rw [read_insert _ _ _ _ (.inl (by simp [read_erase])) (erase_keys_ne m a), read_erase]
    split <;> rfl

/-- `MemRead` after `MemWrite`. -/
theorem readDM_writeDM (s : State) (a w p : Word) :
    (s.writeDM a w).readDM p = if p = a then w else s.readDM p := by
  simp [State.readDM, read_write]

/-! ## The canonical form -/

theorem wfFrom_nil (low : Nat) : Memory.wfFrom low [] = true := rfl

theorem wfFrom_cons (low k : Nat) (w : Word) (m : Memory) :
    Memory.wfFrom low ((k, w) :: m) = true ↔
      low ≤ k ∧ k < 65536 ∧ w ≠ unlistedWord ∧ Memory.wfFrom (k + 1) m = true := by
  simp [Memory.wfFrom, and_assoc]

theorem wfFrom_mono {low low' : Nat} (h : low' ≤ low) {m : Memory} (hm : Memory.wfFrom low m = true) :
    Memory.wfFrom low' m = true := by
  cases m with
  | nil => rfl
  | cons e m =>
    obtain ⟨k, w⟩ := e
    rw [wfFrom_cons] at hm ⊢
    exact ⟨h.trans hm.1, hm.2⟩

theorem erase_wfFrom (m : Memory) (a : Word) (low : Nat) (hm : Memory.wfFrom low m = true) :
    Memory.wfFrom low (m.erase a) = true := by
  induction m generalizing low with
  | nil => rfl
  | cons e m ih =>
    obtain ⟨k, w⟩ := e
    rw [wfFrom_cons] at hm
    unfold Memory.erase
    split
    · exact wfFrom_mono (by omega) (ih (k + 1) hm.2.2.2)
    · rw [wfFrom_cons]
      exact ⟨hm.1, hm.2.1, hm.2.2.1, ih (k + 1) hm.2.2.2⟩

theorem insert_wfFrom (m : Memory) (a w : Word) (low : Nat) (hw : w ≠ unlistedWord)
    (hlow : low ≤ a.toNat) (hk : ∀ e ∈ m, e.1 ≠ a.toNat) (hm : Memory.wfFrom low m = true) :
    Memory.wfFrom low (m.insert a w) = true := by
  induction m generalizing low with
  | nil => simpa [Memory.insert, wfFrom_cons, wfFrom_nil] using ⟨hlow, a.isLt, hw⟩
  | cons e m ih =>
    obtain ⟨k, u⟩ := e
    have hka : k ≠ a.toNat := hk (k, u) (by simp)
    rw [wfFrom_cons] at hm
    unfold Memory.insert
    split
    · next h => simpa [wfFrom_cons] using ⟨hlow, a.isLt, hw, h, hm.2⟩
    · rw [wfFrom_cons]
      exact ⟨hm.1, hm.2.1, hm.2.2.1,
        ih (k + 1) (by omega) (fun e he => hk e (by simp [he])) hm.2.2.2⟩

theorem erase_wf (m : Memory) (a : Word) (hm : m.wf = true) : (m.erase a).wf = true :=
  erase_wfFrom m a 0 hm

/-- A write keeps the canonical form. -/
theorem write_wf (m : Memory) (a w : Word) (hm : m.wf = true) : (m.write a w).wf = true := by
  unfold Memory.write
  split
  · exact erase_wf m a hm
  · next h => exact insert_wfFrom _ a w 0 h (Nat.zero_le _) (erase_keys_ne m a) (erase_wf m a hm)

theorem memoryFrom_wfFrom (ws : List Word) (k : Nat) (h : k + ws.length ≤ 65536) :
    Memory.wfFrom k (memoryFrom k ws) = true := by
  induction ws generalizing k with
  | nil => rfl
  | cons w ws ih =>
    have ih' := ih (k + 1) (by simp at h; omega)
    unfold memoryFrom
    split
    · exact wfFrom_mono (by omega) ih'
    · next hw => exact (wfFrom_cons ..).mpr ⟨le_refl k, by simp at h; omega, hw, ih'⟩

/-- A loaded image is in canonical form. -/
theorem memoryFrom_wf (ws : List Word) (h : ws.length ≤ 65536) : (memoryFrom 0 ws).wf = true :=
  memoryFrom_wfFrom ws 0 (by omega)

theorem reset_memories_wf : State.reset.im.wf = true ∧ State.reset.dm.wf = true := ⟨rfl, rfl⟩

end Sys2Proof.Machine
end

