-- ==== Sys2Proof/Laws/Ops.lean ====
section
/-! SUPPORT. One lemma per shared operation that says once everything it does, in the frames of Safety.lean:
later proofs cite it instead of unfolding the operation. -/

namespace Sys2Proof.Machine

/-! ## Flags (41_alu.md R138) -/

theorem negativeFlag_iff (f : Word) : negativeFlag f = true ↔ 32768 ≤ f.toNat := by
  have : f.msb = f.getLsbD 15 := BitVec.msb_eq_getLsbD_last f
  rw [negativeFlag, ← this, BitVec.msb_eq_decide, decide_eq_true_iff]

theorem zeroFlag_iff (f : Word) : zeroFlag f = true ↔ f.toNat = 0 := by
  rw [zeroFlag, beq_iff_eq, ← BitVec.toNat_inj]; rfl

/-- What writing the flags of a result does (10_state.md R32). -/
theorem setFlags_effect (s : State) (f : Word) : FlagEffect s (s.setFlags f) f.toNat :=
  ⟨⟨negativeFlag_iff f, zeroFlag_iff f⟩, by simp, fun r => by simp, fun a => by simp, fun a => by simp,
    by simp [SameControl]⟩

/-! ## Results, stores, loads -/

/-- What writing a result does (40_cycle.md R106, R107). -/
theorem writeResult_effect (s : State) (rd : Field3) (f : Word) :
    AluEffect s (s.writeResult rd f) rd f.toNat s.running :=
  ⟨by simp [State.writeResult], ⟨negativeFlag_iff f, zeroFlag_iff f⟩, by simp [State.writeResult],
    fun r hr => by simp [State.writeResult, reg_setReg, hr],
    fun a => by simp [State.writeResult], fun a => by simp [State.writeResult],
    by simp [State.writeResult, SameControl]⟩

theorem zext16_toNat (k : Field3) : (zext16 k).toNat = k.toNat := by
  simp [zext16, BitVec.toNat_setWidth]; omega

/-- What a data-memory write of the literal does to memory (20_memory.md R52, 44_load_store.md R192). -/
theorem writeDM_stores (s : State) (ra k : Field3) :
    StoresLiteral s (s.writeDM (effectiveAddress s ra) (storeData k)) ra k :=
  ⟨by simp [readDM_writeDM, storeData, zext16_toNat], fun a ha => by simp [readDM_writeDM, ha],
    fun a => by simp⟩

/-- What a store with a flag side effect does (44_load_store.md, section 3). -/
theorem storeAndFlag_effect (s : State) (ra k : Field3) (f : Word) :
    StoreEffect s (s.storeAndFlag ra k f) ra k f.toNat s.running := by
  obtain ⟨hd, ho, hi⟩ := writeDM_stores s ra k
  exact ⟨⟨by simpa [State.storeAndFlag] using hd, fun a ha => by simpa [State.storeAndFlag] using ho a ha,
      fun a => by simp [State.storeAndFlag]⟩,
    ⟨negativeFlag_iff f, zeroFlag_iff f⟩, by simp [State.storeAndFlag],
    fun r => by simp [State.storeAndFlag], by simp [State.storeAndFlag, SameControl]⟩

/-- What a load does (44_load_store.md R193). -/
theorem loadWord_effect (s : State) (rd ra : Field3) : LoadEffect s (s.loadWord rd ra) rd ra :=
  ⟨by simp [State.loadWord], by simp [State.loadWord, SameFlags], by simp [State.loadWord],
    fun r hr => by simp [State.loadWord, reg_setReg, hr], fun a => by simp [State.loadWord],
    fun a => by simp [State.loadWord], by simp [State.loadWord, SameControl]⟩

/-- What code 15 does to the run: it stops under `halt`, and nothing else changes (46_system.md R261, R262). -/
theorem code15_eq (s : State) :
    s.code15 = if s.config.fs15Variant = .halt then s.stop else s := by
  unfold State.code15; cases h : s.config.fs15Variant <;> simp

/-! ## Controller and fetch -/

/-- Everything phases 1 and 2 change: `pc`, `ir` and the reset flag. -/
theorem fetched_eq (s : State) :
    fetched s = { s with pc := nextPc s, ir := s.readIM (nextPc s), resetFlag := false } := rfl

end Sys2Proof.Machine
end

