-- ==== Sys2Proof/Laws/PerInstr.lean ====
section
/-! SUPPORT. Per instruction: its encoding is a word of its own entry of the opcode map (spec/30_encoding.md
R80), mask and pattern as the table has them. -/

namespace Sys2Proof.Laws

/-- The instruction's encoding is covered by the entry with its mnemonic. -/
def MatchesOpcodeMap.Statement (i : Instr) : Prop :=
  ∃ r ∈ opcodeMap, r.mnemonic = i.mnemonic ∧ r.covers (encode i) = true

/-- An assembled word is covered by the row that fixes its class and function-select bits. -/
theorem covers_mask7 (name : String) (cls : BitVec 3) (f : FsCode) (d a b : Field3) (p : Word)
    (h : assemble cls f 0 0 0 = p) :
    OpcodeRow.covers ⟨name, 0xFE00, p⟩ (assemble cls f d a b) = true := by
  subst h; exact beq_iff_eq.mpr (assemble_and_mask7 cls f d a b)

/-- An assembled word is covered by the row that fixes its class bits. -/
theorem covers_mask3 (name : String) (cls : BitVec 3) (f : FsCode) (d a b : Field3) (p : Word)
    (h : assemble cls 0 0 0 0 = p) :
    OpcodeRow.covers ⟨name, 0xE000, p⟩ (assemble cls f d a b) = true := by
  subst h; exact beq_iff_eq.mpr (assemble_and_mask3 cls f d a b)

end Sys2Proof.Laws

open Sys2Proof Sys2Proof.Laws

theorem Sys2Proof.Laws.MatchesOpcodeMap.mova (rd ra rb : Field3) :
    MatchesOpcodeMap.Statement (.mova rd ra rb) :=
  ⟨⟨"MOVA", 0xFE00, 0x0000⟩, by decide, rfl, covers_mask7 _ _ _ _ _ _ _ (by decide)⟩
theorem Sys2Proof.Laws.MatchesOpcodeMap.inc (rd ra rb : Field3) :
    MatchesOpcodeMap.Statement (.inc rd ra rb) :=
  ⟨⟨"INC", 0xFE00, 0x0200⟩, by decide, rfl, covers_mask7 _ _ _ _ _ _ _ (by decide)⟩
theorem Sys2Proof.Laws.MatchesOpcodeMap.add (rd ra rb : Field3) :
    MatchesOpcodeMap.Statement (.add rd ra rb) :=
  ⟨⟨"ADD", 0xFE00, 0x0400⟩, by decide, rfl, covers_mask7 _ _ _ _ _ _ _ (by decide)⟩
theorem Sys2Proof.Laws.MatchesOpcodeMap.add1 (rd ra rb : Field3) :
    MatchesOpcodeMap.Statement (.add1 rd ra rb) :=
  ⟨⟨"ADD1", 0xFE00, 0x0600⟩, by decide, rfl, covers_mask7 _ _ _ _ _ _ _ (by decide)⟩
theorem Sys2Proof.Laws.MatchesOpcodeMap.sub1 (rd ra rb : Field3) :
    MatchesOpcodeMap.Statement (.sub1 rd ra rb) :=
  ⟨⟨"SUB1", 0xFE00, 0x0800⟩, by decide, rfl, covers_mask7 _ _ _ _ _ _ _ (by decide)⟩
theorem Sys2Proof.Laws.MatchesOpcodeMap.sub (rd ra rb : Field3) :
    MatchesOpcodeMap.Statement (.sub rd ra rb) :=
  ⟨⟨"SUB", 0xFE00, 0x0A00⟩, by decide, rfl, covers_mask7 _ _ _ _ _ _ _ (by decide)⟩
theorem Sys2Proof.Laws.MatchesOpcodeMap.dec (rd ra rb : Field3) :
    MatchesOpcodeMap.Statement (.dec rd ra rb) :=
  ⟨⟨"DEC", 0xFE00, 0x0C00⟩, by decide, rfl, covers_mask7 _ _ _ _ _ _ _ (by decide)⟩
theorem Sys2Proof.Laws.MatchesOpcodeMap.mova2 (rd ra rb : Field3) :
    MatchesOpcodeMap.Statement (.mova2 rd ra rb) :=
  ⟨⟨"MOVA2", 0xFE00, 0x0E00⟩, by decide, rfl, covers_mask7 _ _ _ _ _ _ _ (by decide)⟩
theorem Sys2Proof.Laws.MatchesOpcodeMap.and (rd ra rb : Field3) :
    MatchesOpcodeMap.Statement (.and rd ra rb) :=
  ⟨⟨"AND", 0xFE00, 0x1000⟩, by decide, rfl, covers_mask7 _ _ _ _ _ _ _ (by decide)⟩
theorem Sys2Proof.Laws.MatchesOpcodeMap.or (rd ra rb : Field3) :
    MatchesOpcodeMap.Statement (.or rd ra rb) :=
  ⟨⟨"OR", 0xFE00, 0x1200⟩, by decide, rfl, covers_mask7 _ _ _ _ _ _ _ (by decide)⟩
theorem Sys2Proof.Laws.MatchesOpcodeMap.xor (rd ra rb : Field3) :
    MatchesOpcodeMap.Statement (.xor rd ra rb) :=
  ⟨⟨"XOR", 0xFE00, 0x1400⟩, by decide, rfl, covers_mask7 _ _ _ _ _ _ _ (by decide)⟩
theorem Sys2Proof.Laws.MatchesOpcodeMap.not (rd ra rb : Field3) :
    MatchesOpcodeMap.Statement (.not rd ra rb) :=
  ⟨⟨"NOT", 0xFE00, 0x1600⟩, by decide, rfl, covers_mask7 _ _ _ _ _ _ _ (by decide)⟩
theorem Sys2Proof.Laws.MatchesOpcodeMap.movb (rd ra rb : Field3) :
    MatchesOpcodeMap.Statement (.movb rd ra rb) :=
  ⟨⟨"MOVB", 0xFE00, 0x1800⟩, by decide, rfl, covers_mask7 _ _ _ _ _ _ _ (by decide)⟩
theorem Sys2Proof.Laws.MatchesOpcodeMap.shr (rd ra rb : Field3) :
    MatchesOpcodeMap.Statement (.shr rd ra rb) :=
  ⟨⟨"SHR", 0xFE00, 0x1A00⟩, by decide, rfl, covers_mask7 _ _ _ _ _ _ _ (by decide)⟩
theorem Sys2Proof.Laws.MatchesOpcodeMap.shl (rd ra rb : Field3) :
    MatchesOpcodeMap.Statement (.shl rd ra rb) :=
  ⟨⟨"SHL", 0xFE00, 0x1C00⟩, by decide, rfl, covers_mask7 _ _ _ _ _ _ _ (by decide)⟩
theorem Sys2Proof.Laws.MatchesOpcodeMap.halt (rd ra rb : Field3) :
    MatchesOpcodeMap.Statement (.halt rd ra rb) :=
  ⟨⟨"HALT", 0xFE00, 0x1E00⟩, by decide, rfl, covers_mask7 _ _ _ _ _ _ _ (by decide)⟩
theorem Sys2Proof.Laws.MatchesOpcodeMap.movai (rd ra k : Field3) :
    MatchesOpcodeMap.Statement (.movai rd ra k) :=
  ⟨⟨"MOVAI", 0xFE00, 0x8000⟩, by decide, rfl, covers_mask7 _ _ _ _ _ _ _ (by decide)⟩
theorem Sys2Proof.Laws.MatchesOpcodeMap.inci (rd ra k : Field3) :
    MatchesOpcodeMap.Statement (.inci rd ra k) :=
  ⟨⟨"INCI", 0xFE00, 0x8200⟩, by decide, rfl, covers_mask7 _ _ _ _ _ _ _ (by decide)⟩
theorem Sys2Proof.Laws.MatchesOpcodeMap.addi (rd ra k : Field3) :
    MatchesOpcodeMap.Statement (.addi rd ra k) :=
  ⟨⟨"ADDI", 0xFE00, 0x8400⟩, by decide, rfl, covers_mask7 _ _ _ _ _ _ _ (by decide)⟩
theorem Sys2Proof.Laws.MatchesOpcodeMap.add1i (rd ra k : Field3) :
    MatchesOpcodeMap.Statement (.add1i rd ra k) :=
  ⟨⟨"ADD1I", 0xFE00, 0x8600⟩, by decide, rfl, covers_mask7 _ _ _ _ _ _ _ (by decide)⟩
theorem Sys2Proof.Laws.MatchesOpcodeMap.sub1i (rd ra k : Field3) :
    MatchesOpcodeMap.Statement (.sub1i rd ra k) :=
  ⟨⟨"SUB1I", 0xFE00, 0x8800⟩, by decide, rfl, covers_mask7 _ _ _ _ _ _ _ (by decide)⟩
theorem Sys2Proof.Laws.MatchesOpcodeMap.subi (rd ra k : Field3) :
    MatchesOpcodeMap.Statement (.subi rd ra k) :=
  ⟨⟨"SUBI", 0xFE00, 0x8A00⟩, by decide, rfl, covers_mask7 _ _ _ _ _ _ _ (by decide)⟩
theorem Sys2Proof.Laws.MatchesOpcodeMap.deci (rd ra k : Field3) :
    MatchesOpcodeMap.Statement (.deci rd ra k) :=
  ⟨⟨"DECI", 0xFE00, 0x8C00⟩, by decide, rfl, covers_mask7 _ _ _ _ _ _ _ (by decide)⟩
theorem Sys2Proof.Laws.MatchesOpcodeMap.mova2i (rd ra k : Field3) :
    MatchesOpcodeMap.Statement (.mova2i rd ra k) :=
  ⟨⟨"MOVA2I", 0xFE00, 0x8E00⟩, by decide, rfl, covers_mask7 _ _ _ _ _ _ _ (by decide)⟩
theorem Sys2Proof.Laws.MatchesOpcodeMap.andi (rd ra k : Field3) :
    MatchesOpcodeMap.Statement (.andi rd ra k) :=
  ⟨⟨"ANDI", 0xFE00, 0x9000⟩, by decide, rfl, covers_mask7 _ _ _ _ _ _ _ (by decide)⟩
theorem Sys2Proof.Laws.MatchesOpcodeMap.ori (rd ra k : Field3) :
    MatchesOpcodeMap.Statement (.ori rd ra k) :=
  ⟨⟨"ORI", 0xFE00, 0x9200⟩, by decide, rfl, covers_mask7 _ _ _ _ _ _ _ (by decide)⟩
theorem Sys2Proof.Laws.MatchesOpcodeMap.xori (rd ra k : Field3) :
    MatchesOpcodeMap.Statement (.xori rd ra k) :=
  ⟨⟨"XORI", 0xFE00, 0x9400⟩, by decide, rfl, covers_mask7 _ _ _ _ _ _ _ (by decide)⟩
theorem Sys2Proof.Laws.MatchesOpcodeMap.noti (rd ra k : Field3) :
    MatchesOpcodeMap.Statement (.noti rd ra k) :=
  ⟨⟨"NOTI", 0xFE00, 0x9600⟩, by decide, rfl, covers_mask7 _ _ _ _ _ _ _ (by decide)⟩
theorem Sys2Proof.Laws.MatchesOpcodeMap.movbi (rd ra k : Field3) :
    MatchesOpcodeMap.Statement (.movbi rd ra k) :=
  ⟨⟨"MOVBI", 0xFE00, 0x9800⟩, by decide, rfl, covers_mask7 _ _ _ _ _ _ _ (by decide)⟩
theorem Sys2Proof.Laws.MatchesOpcodeMap.shri (rd ra k : Field3) :
    MatchesOpcodeMap.Statement (.shri rd ra k) :=
  ⟨⟨"SHRI", 0xFE00, 0x9A00⟩, by decide, rfl, covers_mask7 _ _ _ _ _ _ _ (by decide)⟩
theorem Sys2Proof.Laws.MatchesOpcodeMap.shli (rd ra k : Field3) :
    MatchesOpcodeMap.Statement (.shli rd ra k) :=
  ⟨⟨"SHLI", 0xFE00, 0x9C00⟩, by decide, rfl, covers_mask7 _ _ _ _ _ _ _ (by decide)⟩
theorem Sys2Proof.Laws.MatchesOpcodeMap.halti (rd ra k : Field3) :
    MatchesOpcodeMap.Statement (.halti rd ra k) :=
  ⟨⟨"HALTI", 0xFE00, 0x9E00⟩, by decide, rfl, covers_mask7 _ _ _ _ _ _ _ (by decide)⟩
theorem Sys2Proof.Laws.MatchesOpcodeMap.ld (rd ra : Field3) :
    MatchesOpcodeMap.Statement (.ld rd ra) :=
  ⟨⟨"LD", 0xE000, 0x2000⟩, by decide, rfl, covers_mask3 _ _ _ _ _ _ _ (by decide)⟩
theorem Sys2Proof.Laws.MatchesOpcodeMap.ldMb (rd ra : Field3) :
    MatchesOpcodeMap.Statement (.ldMb rd ra) :=
  ⟨⟨"LD.MB", 0xE000, 0xA000⟩, by decide, rfl, covers_mask3 _ _ _ _ _ _ _ (by decide)⟩
theorem Sys2Proof.Laws.MatchesOpcodeMap.stMova (ra k : Field3) :
    MatchesOpcodeMap.Statement (.stMova ra k) :=
  ⟨⟨"ST.MOVA", 0xFE00, 0x4000⟩, by decide, rfl, covers_mask7 _ _ _ _ _ _ _ (by decide)⟩
theorem Sys2Proof.Laws.MatchesOpcodeMap.stInc (ra k : Field3) :
    MatchesOpcodeMap.Statement (.stInc ra k) :=
  ⟨⟨"ST.INC", 0xFE00, 0x4200⟩, by decide, rfl, covers_mask7 _ _ _ _ _ _ _ (by decide)⟩
theorem Sys2Proof.Laws.MatchesOpcodeMap.stAdd (ra k : Field3) :
    MatchesOpcodeMap.Statement (.stAdd ra k) :=
  ⟨⟨"ST.ADD", 0xFE00, 0x4400⟩, by decide, rfl, covers_mask7 _ _ _ _ _ _ _ (by decide)⟩
theorem Sys2Proof.Laws.MatchesOpcodeMap.stAdd1 (ra k : Field3) :
    MatchesOpcodeMap.Statement (.stAdd1 ra k) :=
  ⟨⟨"ST.ADD1", 0xFE00, 0x4600⟩, by decide, rfl, covers_mask7 _ _ _ _ _ _ _ (by decide)⟩
theorem Sys2Proof.Laws.MatchesOpcodeMap.stSub1 (ra k : Field3) :
    MatchesOpcodeMap.Statement (.stSub1 ra k) :=
  ⟨⟨"ST.SUB1", 0xFE00, 0x4800⟩, by decide, rfl, covers_mask7 _ _ _ _ _ _ _ (by decide)⟩
theorem Sys2Proof.Laws.MatchesOpcodeMap.stSub (ra k : Field3) :
    MatchesOpcodeMap.Statement (.stSub ra k) :=
  ⟨⟨"ST.SUB", 0xFE00, 0x4A00⟩, by decide, rfl, covers_mask7 _ _ _ _ _ _ _ (by decide)⟩
theorem Sys2Proof.Laws.MatchesOpcodeMap.stDec (ra k : Field3) :
    MatchesOpcodeMap.Statement (.stDec ra k) :=
  ⟨⟨"ST.DEC", 0xFE00, 0x4C00⟩, by decide, rfl, covers_mask7 _ _ _ _ _ _ _ (by decide)⟩
theorem Sys2Proof.Laws.MatchesOpcodeMap.stMova2 (ra k : Field3) :
    MatchesOpcodeMap.Statement (.stMova2 ra k) :=
  ⟨⟨"ST.MOVA2", 0xFE00, 0x4E00⟩, by decide, rfl, covers_mask7 _ _ _ _ _ _ _ (by decide)⟩
theorem Sys2Proof.Laws.MatchesOpcodeMap.stAnd (ra k : Field3) :
    MatchesOpcodeMap.Statement (.stAnd ra k) :=
  ⟨⟨"ST.AND", 0xFE00, 0x5000⟩, by decide, rfl, covers_mask7 _ _ _ _ _ _ _ (by decide)⟩
theorem Sys2Proof.Laws.MatchesOpcodeMap.stOr (ra k : Field3) :
    MatchesOpcodeMap.Statement (.stOr ra k) :=
  ⟨⟨"ST.OR", 0xFE00, 0x5200⟩, by decide, rfl, covers_mask7 _ _ _ _ _ _ _ (by decide)⟩
theorem Sys2Proof.Laws.MatchesOpcodeMap.stXor (ra k : Field3) :
    MatchesOpcodeMap.Statement (.stXor ra k) :=
  ⟨⟨"ST.XOR", 0xFE00, 0x5400⟩, by decide, rfl, covers_mask7 _ _ _ _ _ _ _ (by decide)⟩
theorem Sys2Proof.Laws.MatchesOpcodeMap.stNot (ra k : Field3) :
    MatchesOpcodeMap.Statement (.stNot ra k) :=
  ⟨⟨"ST.NOT", 0xFE00, 0x5600⟩, by decide, rfl, covers_mask7 _ _ _ _ _ _ _ (by decide)⟩
theorem Sys2Proof.Laws.MatchesOpcodeMap.stMovb (ra k : Field3) :
    MatchesOpcodeMap.Statement (.stMovb ra k) :=
  ⟨⟨"ST.MOVB", 0xFE00, 0x5800⟩, by decide, rfl, covers_mask7 _ _ _ _ _ _ _ (by decide)⟩
theorem Sys2Proof.Laws.MatchesOpcodeMap.stShr (ra k : Field3) :
    MatchesOpcodeMap.Statement (.stShr ra k) :=
  ⟨⟨"ST.SHR", 0xFE00, 0x5A00⟩, by decide, rfl, covers_mask7 _ _ _ _ _ _ _ (by decide)⟩
theorem Sys2Proof.Laws.MatchesOpcodeMap.stShl (ra k : Field3) :
    MatchesOpcodeMap.Statement (.stShl ra k) :=
  ⟨⟨"ST.SHL", 0xFE00, 0x5C00⟩, by decide, rfl, covers_mask7 _ _ _ _ _ _ _ (by decide)⟩
theorem Sys2Proof.Laws.MatchesOpcodeMap.stHalt (rd ra k : Field3) :
    MatchesOpcodeMap.Statement (.stHalt rd ra k) :=
  ⟨⟨"ST.HALT", 0xFE00, 0x5E00⟩, by decide, rfl, covers_mask7 _ _ _ _ _ _ _ (by decide)⟩
theorem Sys2Proof.Laws.MatchesOpcodeMap.stNf (ra k : Field3) :
    MatchesOpcodeMap.Statement (.stNf ra k) :=
  ⟨⟨"ST.NF", 0xE000, 0x6000⟩, by decide, rfl, covers_mask3 _ _ _ _ _ _ _ (by decide)⟩
theorem Sys2Proof.Laws.MatchesOpcodeMap.brzMova (offHi ra offLo : Field3) :
    MatchesOpcodeMap.Statement (.brzMova offHi ra offLo) :=
  ⟨⟨"BRZ.MOVA", 0xFE00, 0xC000⟩, by decide, rfl, covers_mask7 _ _ _ _ _ _ _ (by decide)⟩
theorem Sys2Proof.Laws.MatchesOpcodeMap.brzAdd (offHi ra offLo : Field3) :
    MatchesOpcodeMap.Statement (.brzAdd offHi ra offLo) :=
  ⟨⟨"BRZ.ADD", 0xFE00, 0xC400⟩, by decide, rfl, covers_mask7 _ _ _ _ _ _ _ (by decide)⟩
theorem Sys2Proof.Laws.MatchesOpcodeMap.brzSub1 (offHi ra offLo : Field3) :
    MatchesOpcodeMap.Statement (.brzSub1 offHi ra offLo) :=
  ⟨⟨"BRZ.SUB1", 0xFE00, 0xC800⟩, by decide, rfl, covers_mask7 _ _ _ _ _ _ _ (by decide)⟩
theorem Sys2Proof.Laws.MatchesOpcodeMap.brzDec (offHi ra offLo : Field3) :
    MatchesOpcodeMap.Statement (.brzDec offHi ra offLo) :=
  ⟨⟨"BRZ.DEC", 0xFE00, 0xCC00⟩, by decide, rfl, covers_mask7 _ _ _ _ _ _ _ (by decide)⟩
theorem Sys2Proof.Laws.MatchesOpcodeMap.brzAnd (offHi ra offLo : Field3) :
    MatchesOpcodeMap.Statement (.brzAnd offHi ra offLo) :=
  ⟨⟨"BRZ.AND", 0xFE00, 0xD000⟩, by decide, rfl, covers_mask7 _ _ _ _ _ _ _ (by decide)⟩
theorem Sys2Proof.Laws.MatchesOpcodeMap.brzXor (offHi ra offLo : Field3) :
    MatchesOpcodeMap.Statement (.brzXor offHi ra offLo) :=
  ⟨⟨"BRZ.XOR", 0xFE00, 0xD400⟩, by decide, rfl, covers_mask7 _ _ _ _ _ _ _ (by decide)⟩
theorem Sys2Proof.Laws.MatchesOpcodeMap.brzMovb (offHi ra offLo : Field3) :
    MatchesOpcodeMap.Statement (.brzMovb offHi ra offLo) :=
  ⟨⟨"BRZ.MOVB", 0xFE00, 0xD800⟩, by decide, rfl, covers_mask7 _ _ _ _ _ _ _ (by decide)⟩
theorem Sys2Proof.Laws.MatchesOpcodeMap.brzShl (offHi ra offLo : Field3) :
    MatchesOpcodeMap.Statement (.brzShl offHi ra offLo) :=
  ⟨⟨"BRZ.SHL", 0xFE00, 0xDC00⟩, by decide, rfl, covers_mask7 _ _ _ _ _ _ _ (by decide)⟩
theorem Sys2Proof.Laws.MatchesOpcodeMap.brnMova (offHi ra offLo : Field3) :
    MatchesOpcodeMap.Statement (.brnMova offHi ra offLo) :=
  ⟨⟨"BRN.MOVA", 0xFE00, 0xC200⟩, by decide, rfl, covers_mask7 _ _ _ _ _ _ _ (by decide)⟩
theorem Sys2Proof.Laws.MatchesOpcodeMap.brnAdd (offHi ra offLo : Field3) :
    MatchesOpcodeMap.Statement (.brnAdd offHi ra offLo) :=
  ⟨⟨"BRN.ADD", 0xFE00, 0xC600⟩, by decide, rfl, covers_mask7 _ _ _ _ _ _ _ (by decide)⟩
theorem Sys2Proof.Laws.MatchesOpcodeMap.brnSub1 (offHi ra offLo : Field3) :
    MatchesOpcodeMap.Statement (.brnSub1 offHi ra offLo) :=
  ⟨⟨"BRN.SUB1", 0xFE00, 0xCA00⟩, by decide, rfl, covers_mask7 _ _ _ _ _ _ _ (by decide)⟩
theorem Sys2Proof.Laws.MatchesOpcodeMap.brnDec (offHi ra offLo : Field3) :
    MatchesOpcodeMap.Statement (.brnDec offHi ra offLo) :=
  ⟨⟨"BRN.DEC", 0xFE00, 0xCE00⟩, by decide, rfl, covers_mask7 _ _ _ _ _ _ _ (by decide)⟩
theorem Sys2Proof.Laws.MatchesOpcodeMap.brnAnd (offHi ra offLo : Field3) :
    MatchesOpcodeMap.Statement (.brnAnd offHi ra offLo) :=
  ⟨⟨"BRN.AND", 0xFE00, 0xD200⟩, by decide, rfl, covers_mask7 _ _ _ _ _ _ _ (by decide)⟩
theorem Sys2Proof.Laws.MatchesOpcodeMap.brnXor (offHi ra offLo : Field3) :
    MatchesOpcodeMap.Statement (.brnXor offHi ra offLo) :=
  ⟨⟨"BRN.XOR", 0xFE00, 0xD600⟩, by decide, rfl, covers_mask7 _ _ _ _ _ _ _ (by decide)⟩
theorem Sys2Proof.Laws.MatchesOpcodeMap.brnMovb (offHi ra offLo : Field3) :
    MatchesOpcodeMap.Statement (.brnMovb offHi ra offLo) :=
  ⟨⟨"BRN.MOVB", 0xFE00, 0xDA00⟩, by decide, rfl, covers_mask7 _ _ _ _ _ _ _ (by decide)⟩
theorem Sys2Proof.Laws.MatchesOpcodeMap.brnShl (offHi ra offLo : Field3) :
    MatchesOpcodeMap.Statement (.brnShl offHi ra offLo) :=
  ⟨⟨"BRN.SHL", 0xFE00, 0xDE00⟩, by decide, rfl, covers_mask7 _ _ _ _ _ _ _ (by decide)⟩
theorem Sys2Proof.Laws.MatchesOpcodeMap.jmp (ra : Field3) :
    MatchesOpcodeMap.Statement (.jmp ra) :=
  ⟨⟨"JMP", 0xE000, 0xE000⟩, by decide, rfl, covers_mask3 _ _ _ _ _ _ _ (by decide)⟩
end

