-- ==== Sys2Proof/Tests/Slice0.lean ====
section
/-! SUPPORT. The model's own tests: ill-formed inputs refused, words written out in the spec decoded, one step per
instruction from the vectors of spec/95_test_vectors.md, and a witness for the hypotheses of each statement. -/

namespace Sys2Proof.Tests

open Sys2Proof.Machine

/-! ## Well-formedness: one ill-formed term per check -/

theorem test_displacement_topBit_below : displacementWellFormed .topBit (-33) = false := by decide
theorem test_displacement_topBit_above : displacementWellFormed .topBit 32 = false := by decide
theorem test_displacement_gt4_below : displacementWellFormed .gt4 (-25) = false := by decide
theorem test_displacement_gt4_above : displacementWellFormed .gt4 40 = false := by decide
theorem test_image_literal_too_large : imageWellFormed [.literal 0x10000] = false := by decide
theorem test_image_not_hex : imageWellFormed [.literal 0x1234, .notHex] = false := by decide
theorem test_image_too_long : imageWellFormed (List.replicate 65537 (.literal 0)) = false := by
  rw [imageWellFormed, List.length_replicate]; rfl

/-! ## Decoding: the word each rule gives in its example (spec/42 to 45), read as the host reads it -/

theorem test_decode_register :
    decodeTableWord 16 0x00CA = some (.mova 3 1 2) ∧
    decodeTableWord 16 0x02CA = some (.inc 3 1 2) ∧
    decodeTableWord 16 0x04CA = some (.add 3 1 2) ∧
    decodeTableWord 16 0x06CA = some (.add1 3 1 2) ∧
    decodeTableWord 16 0x08CA = some (.sub1 3 1 2) ∧
    decodeTableWord 16 0x0ACA = some (.sub 3 1 2) ∧
    decodeTableWord 16 0x0CCA = some (.dec 3 1 2) ∧
    decodeTableWord 16 0x0ECA = some (.mova2 3 1 2) ∧
    decodeTableWord 16 0x10CA = some (.and 3 1 2) ∧
    decodeTableWord 16 0x12CA = some (.or 3 1 2) ∧
    decodeTableWord 16 0x14CA = some (.xor 3 1 2) ∧
    decodeTableWord 16 0x16CA = some (.not 3 1 2) ∧
    decodeTableWord 16 0x18CA = some (.movb 3 1 2) ∧
    decodeTableWord 16 0x1ACA = some (.shr 3 1 2) ∧
    decodeTableWord 16 0x1CCA = some (.shl 3 1 2) ∧
    decodeTableWord 16 0x1ECA = some (.halt 3 1 2) := by decide

theorem test_decode_immediate :
    decodeTableWord 16 0x80CD = some (.movai 3 1 5) ∧
    decodeTableWord 16 0x82CD = some (.inci 3 1 5) ∧
    decodeTableWord 16 0x84CD = some (.addi 3 1 5) ∧
    decodeTableWord 16 0x86CD = some (.add1i 3 1 5) ∧
    decodeTableWord 16 0x88CD = some (.sub1i 3 1 5) ∧
    decodeTableWord 16 0x8ACD = some (.subi 3 1 5) ∧
    decodeTableWord 16 0x8CCD = some (.deci 3 1 5) ∧
    decodeTableWord 16 0x8ECD = some (.mova2i 3 1 5) ∧
    decodeTableWord 16 0x90CD = some (.andi 3 1 5) ∧
    decodeTableWord 16 0x92CD = some (.ori 3 1 5) ∧
    decodeTableWord 16 0x94CD = some (.xori 3 1 5) ∧
    decodeTableWord 16 0x96CD = some (.noti 3 1 5) ∧
    decodeTableWord 16 0x98CD = some (.movbi 3 1 5) ∧
    decodeTableWord 16 0x9ACD = some (.shri 3 1 5) ∧
    decodeTableWord 16 0x9CCD = some (.shli 3 1 5) ∧
    decodeTableWord 16 0x9ECD = some (.halti 3 1 5) := by decide

theorem test_decode_load :
    decodeTableWord 16 0x20C8 = some (.ld 3 1) ∧
    decodeTableWord 16 0xA0C8 = some (.ldMb 3 1) := by decide

theorem test_decode_store :
    decodeTableWord 16 0x400A = some (.stMova 1 2) ∧
    decodeTableWord 16 0x420A = some (.stInc 1 2) ∧
    decodeTableWord 16 0x440A = some (.stAdd 1 2) ∧
    decodeTableWord 16 0x460A = some (.stAdd1 1 2) ∧
    decodeTableWord 16 0x480A = some (.stSub1 1 2) ∧
    decodeTableWord 16 0x4A0A = some (.stSub 1 2) ∧
    decodeTableWord 16 0x4C0A = some (.stDec 1 2) ∧
    decodeTableWord 16 0x4E0A = some (.stMova2 1 2) ∧
    decodeTableWord 16 0x500A = some (.stAnd 1 2) ∧
    decodeTableWord 16 0x520A = some (.stOr 1 2) ∧
    decodeTableWord 16 0x540A = some (.stXor 1 2) ∧
    decodeTableWord 16 0x560A = some (.stNot 1 2) ∧
    decodeTableWord 16 0x580A = some (.stMovb 1 2) ∧
    decodeTableWord 16 0x5A0A = some (.stShr 1 2) ∧
    decodeTableWord 16 0x5C0A = some (.stShl 1 2) ∧
    decodeTableWord 16 0x5E0A = some (.stHalt 0 1 2) ∧
    decodeTableWord 16 0x600A = some (.stNf 1 2) := by decide

theorem test_decode_branch_on_zero :
    decodeTableWord 16 0xC00B = some (.brzMova 0 1 3) ∧
    decodeTableWord 16 0xC40B = some (.brzAdd 0 1 3) ∧
    decodeTableWord 16 0xC80B = some (.brzSub1 0 1 3) ∧
    decodeTableWord 16 0xCC0B = some (.brzDec 0 1 3) ∧
    decodeTableWord 16 0xD00B = some (.brzAnd 0 1 3) ∧
    decodeTableWord 16 0xD40B = some (.brzXor 0 1 3) ∧
    decodeTableWord 16 0xD848 = some (.brzMovb 1 1 0) ∧
    decodeTableWord 16 0xDC48 = some (.brzShl 1 1 0) := by decide

theorem test_decode_branch_on_negative :
    decodeTableWord 16 0xC20B = some (.brnMova 0 1 3) ∧
    decodeTableWord 16 0xC60B = some (.brnAdd 0 1 3) ∧
    decodeTableWord 16 0xCA0B = some (.brnSub1 0 1 3) ∧
    decodeTableWord 16 0xCE0B = some (.brnDec 0 1 3) ∧
    decodeTableWord 16 0xD20B = some (.brnAnd 0 1 3) ∧
    decodeTableWord 16 0xD60B = some (.brnXor 0 1 3) ∧
    decodeTableWord 16 0xDA0B = some (.brnMovb 0 1 3) ∧
    decodeTableWord 16 0xDE0B = some (.brnShl 0 1 3) := by decide

theorem test_decode_jump :
    decodeTableWord 16 0xE008 = some (.jmp 1) := by decide

/-- The decoder rows of 95_test_vectors.md 2.1 that could go wrong: code bits all ones in each class. -/
theorem test_decode_all_ones :
    decodeTableWord 16 0x1FFF = some (.halt 7 7 7) ∧ decodeTableWord 16 0x3FFF = some (.ld 7 7) ∧
    decodeTableWord 16 0x7FFF = some (.stNf 7 7) ∧ decodeTableWord 16 0xBFFF = some (.ldMb 7 7) ∧
    decodeTableWord 16 0xDFFF = some (.brnShl 7 7 7) ∧ decodeTableWord 16 0xFFFF = some (.jmp 7) := by
  decide

/-- The bundle of 0xDE00 (95_test_vectors.md 2.1): FS forced from 15 to 14. -/
theorem test_bundle_DE00 : bundle 0xDE00 =
    { da := 0, aa := 0, ba := 0, fs := 14, mb := true, md := false, rw := false, mw := false,
      pl := true, jb := false, bc := true } := by decide

theorem test_decode_rejects_two_words : decodeTableWord 32 0x04CA = none := by decide

/-! ## One step: the vectors of 95_test_vectors.md, section 2, at 0x0010 -/

/-- The start state of the vectors of section 2.3, one address before the instruction, with given flags. -/
def vectorState (n z : Bool) : State :=
  { State.reset with
    x := #v[0x0000, 0x1234, 0x0F0F, 0x8000, 0xFFFF, 0x7FFF, 0x0001, 0x00FF]
    pc := 0x000F, n := n, z := z, resetFlag := false
    dm := [(0x0F0F, 0x0123), (0x1234, 0xBEEF), (0x8000, 0x8001)] }

/-- The state after one step on a word. -/
def after (s : State) (w : Nat) : State :=
  match step (s.withFetchWord 16 w) with
  | .next t => t
  | .fault _ => s
  | .refused _ => s

/-- A register, the two flags, the run flag. -/
def seen (t : State) (r : Field3) : Word × Bool × Bool × Bool := (t.reg r, t.n, t.z, t.running)

theorem test_step_MOVA :
    seen (after (vectorState false false) 0x01CA) 7 = (0x1234, false, false, true) := by decide
theorem test_step_INC :
    seen (after (vectorState false false) 0x03CA) 7 = (0x1235, false, false, true) := by decide
theorem test_step_ADD :
    seen (after (vectorState false false) 0x05CA) 7 = (0x2143, false, false, true) := by decide
theorem test_step_ADD_same_register :
    seen (after (vectorState false false) 0x04DB) 3 = (0x0000, false, true, true) := by decide
theorem test_step_ADD1 :
    seen (after (vectorState false false) 0x07CA) 7 = (0x2144, false, false, true) := by decide
theorem test_step_SUB1 :
    seen (after (vectorState false false) 0x09CA) 7 = (0x0324, false, false, true) := by decide
theorem test_step_SUB1_same_register :
    seen (after (vectorState false false) 0x08DB) 3 = (0xFFFF, true, false, true) := by decide
theorem test_step_SUB :
    seen (after (vectorState false false) 0x0BCA) 7 = (0x0325, false, false, true) := by decide
theorem test_step_DEC :
    seen (after (vectorState false false) 0x0DCA) 7 = (0x1233, false, false, true) := by decide
theorem test_step_MOVA2 :
    seen (after (vectorState false false) 0x0FCA) 7 = (0x1234, false, false, true) := by decide
theorem test_step_AND :
    seen (after (vectorState false false) 0x11CA) 7 = (0x0204, false, false, true) := by decide
theorem test_step_OR :
    seen (after (vectorState false false) 0x13CA) 7 = (0x1F3F, false, false, true) := by decide
theorem test_step_XOR :
    seen (after (vectorState false false) 0x15CA) 7 = (0x1D3B, false, false, true) := by decide
theorem test_step_NOT :
    seen (after (vectorState false false) 0x17CA) 7 = (0xEDCB, true, false, true) := by decide
theorem test_step_NOT_same_register :
    seen (after (vectorState false false) 0x16DB) 3 = (0x7FFF, false, false, true) := by decide
theorem test_step_MOVB :
    seen (after (vectorState false false) 0x19CA) 7 = (0x0F0F, false, false, true) := by decide
theorem test_step_SHR :
    seen (after (vectorState false false) 0x1BCA) 7 = (0x0787, false, false, true) := by decide
theorem test_step_SHR_same_register :
    seen (after (vectorState false false) 0x1ADB) 3 = (0x4000, false, false, true) := by decide
theorem test_step_SHL :
    seen (after (vectorState false false) 0x1DCA) 7 = (0x1E1E, false, false, true) := by decide
theorem test_step_SHL_same_register :
    seen (after (vectorState false false) 0x1CDB) 3 = (0x0000, false, true, true) := by decide
theorem test_step_HALT :
    seen (after (vectorState false false) 0x1FCA) 7 = (0x1234, false, false, false) := by decide
theorem test_step_MOVAI :
    seen (after (vectorState false false) 0x81CD) 7 = (0x1234, false, false, true) := by decide
theorem test_step_INCI :
    seen (after (vectorState false false) 0x83CD) 7 = (0x1235, false, false, true) := by decide
theorem test_step_INCI_same_register :
    seen (after (vectorState false false) 0x8327) 4 = (0x0000, false, true, true) := by decide
theorem test_step_ADDI :
    seen (after (vectorState false false) 0x85CD) 7 = (0x1239, false, false, true) := by decide
theorem test_step_ADDI_same_register :
    seen (after (vectorState false false) 0x8527) 4 = (0x0006, false, false, true) := by decide
theorem test_step_ADD1I :
    seen (after (vectorState false false) 0x87CD) 7 = (0x123A, false, false, true) := by decide
theorem test_step_SUB1I :
    seen (after (vectorState false false) 0x89CD) 7 = (0x122E, false, false, true) := by decide
theorem test_step_SUBI :
    seen (after (vectorState false false) 0x8BCD) 7 = (0x122F, false, false, true) := by decide
theorem test_step_SUBI_same_register :
    seen (after (vectorState false false) 0x8B27) 4 = (0xFFF8, true, false, true) := by decide
theorem test_step_DECI :
    seen (after (vectorState false false) 0x8DCD) 7 = (0x1233, false, false, true) := by decide
theorem test_step_MOVA2I :
    seen (after (vectorState false false) 0x8FCD) 7 = (0x1234, false, false, true) := by decide
theorem test_step_ANDI :
    seen (after (vectorState false false) 0x91CD) 7 = (0x0004, false, false, true) := by decide
theorem test_step_ORI :
    seen (after (vectorState false false) 0x93CD) 7 = (0x1235, false, false, true) := by decide
theorem test_step_XORI :
    seen (after (vectorState false false) 0x95CD) 7 = (0x1231, false, false, true) := by decide
theorem test_step_NOTI :
    seen (after (vectorState false false) 0x97CD) 7 = (0xEDCB, true, false, true) := by decide
theorem test_step_MOVBI :
    seen (after (vectorState false false) 0x99CD) 7 = (0x0005, false, false, true) := by decide
theorem test_step_SHRI :
    seen (after (vectorState false false) 0x9BCD) 7 = (0x0002, false, false, true) := by decide
theorem test_step_SHLI :
    seen (after (vectorState false false) 0x9DCD) 7 = (0x000A, false, false, true) := by decide
theorem test_step_HALTI :
    seen (after (vectorState false false) 0x9FCD) 7 = (0x1234, false, false, false) := by decide

theorem test_step_LD :
    seen (after (vectorState true true) 0x21C8) 7 = (0xBEEF, true, true, true) := by decide
theorem test_step_LD_second :
    seen (after (vectorState true true) 0x2048) 1 = (0xBEEF, true, true, true) := by decide
theorem test_step_LD_MB :
    seen (after (vectorState true true) 0xA158) 5 = (0x8001, true, true, true) := by decide
theorem test_step_LD_MB_second :
    seen (after (vectorState true true) 0xA090) 2 = (0x0123, true, true, true) := by decide
theorem test_step_ST_MOVA :
    let t := after (vectorState true true) 0x400D
    (t.readDM 0x1234, t.n, t.z, t.running) = (0x0005, false, false, true) := by decide
theorem test_step_ST_INC :
    let t := after (vectorState true true) 0x420D
    (t.readDM 0x1234, t.n, t.z, t.running) = (0x0005, false, false, true) := by decide
theorem test_step_ST_ADD :
    let t := after (vectorState true true) 0x440D
    (t.readDM 0x1234, t.n, t.z, t.running) = (0x0005, true, false, true) := by decide
theorem test_step_ST_ADD1 :
    let t := after (vectorState true true) 0x460D
    (t.readDM 0x1234, t.n, t.z, t.running) = (0x0005, true, false, true) := by decide
theorem test_step_ST_SUB1 :
    let t := after (vectorState true true) 0x480D
    (t.readDM 0x1234, t.n, t.z, t.running) = (0x0005, true, false, true) := by decide
theorem test_step_ST_SUB :
    let t := after (vectorState true true) 0x4A0D
    (t.readDM 0x1234, t.n, t.z, t.running) = (0x0005, true, false, true) := by decide
theorem test_step_ST_DEC :
    let t := after (vectorState true true) 0x4C0D
    (t.readDM 0x1234, t.n, t.z, t.running) = (0x0005, false, false, true) := by decide
theorem test_step_ST_MOVA2 :
    let t := after (vectorState true true) 0x4E0D
    (t.readDM 0x1234, t.n, t.z, t.running) = (0x0005, false, false, true) := by decide
theorem test_step_ST_AND :
    let t := after (vectorState true true) 0x500D
    (t.readDM 0x1234, t.n, t.z, t.running) = (0x0005, false, false, true) := by decide
theorem test_step_ST_OR :
    let t := after (vectorState true true) 0x520D
    (t.readDM 0x1234, t.n, t.z, t.running) = (0x0005, false, false, true) := by decide
theorem test_step_ST_XOR :
    let t := after (vectorState true true) 0x540D
    (t.readDM 0x1234, t.n, t.z, t.running) = (0x0005, false, false, true) := by decide
theorem test_step_ST_NOT :
    let t := after (vectorState true true) 0x560D
    (t.readDM 0x1234, t.n, t.z, t.running) = (0x0005, true, false, true) := by decide
theorem test_step_ST_MOVB :
    let t := after (vectorState true true) 0x580D
    (t.readDM 0x1234, t.n, t.z, t.running) = (0x0005, false, false, true) := by decide
theorem test_step_ST_SHR :
    let t := after (vectorState true true) 0x5A0D
    (t.readDM 0x1234, t.n, t.z, t.running) = (0x0005, false, false, true) := by decide
theorem test_step_ST_SHL :
    let t := after (vectorState true true) 0x5C0D
    (t.readDM 0x1234, t.n, t.z, t.running) = (0x0005, true, false, true) := by decide
theorem test_step_ST_HALT :
    let t := after (vectorState true true) 0x5E0D
    (t.readDM 0x1234, t.n, t.z, t.running) = (0x0005, false, false, false) := by decide
theorem test_step_ST_ADD_second :
    let t := after (vectorState true true) 0x4424
    (t.readDM 0xFFFF, t.n, t.z, t.running) = (0x0004, true, false, true) := by decide
theorem test_step_ST_NF :
    let t := after (vectorState true true) 0x600D
    (t.readDM 0x1234, t.n, t.z, t.running) = (0x0005, true, true, true) := by decide
theorem test_step_ST_NF_second :
    let t := after (vectorState true true) 0x6018
    (t.readDM 0x8000, t.n, t.z, t.running) = (0x0000, true, true, true) := by decide

/-- The state of the branch vectors (95_test_vectors.md 2.6): R1 given, the next fetch at `q`. -/
def branchState (rule : BranchSignRule) (r1 q : Word) : State :=
  { State.reset with
    x := #v[0x0000, r1, 0x0000, 0x0000, 0x0000, 0x0000, 0x0000, 0x0000]
    pc := q - 1, resetFlag := false
    config := { Config.specDefault with branchSignRule := rule } }

/-- The flags a word's own cycle leaves at `q`, and the address of the next fetch. -/
def goes (rule : BranchSignRule) (r1 q : Word) (w : Nat) : Bool × Bool × Word :=
  let t := after (branchState rule r1 q) w
  (t.n, t.z, nextPc t)

theorem test_step_BRZ_MOVA_taken :
    goes .topBit 0x0000 0x0010 0xC00B = (false, true, 0x0013) := by decide
theorem test_step_BRZ_MOVA_untaken :
    goes .topBit 0x0005 0x0010 0xC00B = (false, false, 0x0011) := by decide
theorem test_step_BRZ_ADD_taken :
    goes .topBit 0xFFFD 0x0010 0xC40B = (false, true, 0x0013) := by decide
theorem test_step_BRZ_ADD_untaken :
    goes .topBit 0x0000 0x0010 0xC40B = (false, false, 0x0011) := by decide
theorem test_step_BRZ_SUB1_taken :
    goes .topBit 0x0004 0x0010 0xC80B = (false, true, 0x0013) := by decide
theorem test_step_BRZ_SUB1_untaken :
    goes .topBit 0x0003 0x0010 0xC80B = (true, false, 0x0011) := by decide
theorem test_step_BRZ_DEC_taken :
    goes .topBit 0x0001 0x0010 0xCC0B = (false, true, 0x0013) := by decide
theorem test_step_BRZ_DEC_untaken :
    goes .topBit 0x0000 0x0010 0xCC0B = (true, false, 0x0011) := by decide
theorem test_step_BRZ_AND_taken :
    goes .topBit 0x0004 0x0010 0xD00B = (false, true, 0x0013) := by decide
theorem test_step_BRZ_AND_untaken :
    goes .topBit 0x0007 0x0010 0xD00B = (false, false, 0x0011) := by decide
theorem test_step_BRZ_XOR_taken :
    goes .topBit 0x0003 0x0010 0xD40B = (false, true, 0x0013) := by decide
theorem test_step_BRZ_XOR_untaken :
    goes .topBit 0x0002 0x0010 0xD40B = (false, false, 0x0011) := by decide
theorem test_step_BRZ_MOVB_untaken :
    goes .topBit 0x1234 0x0010 0xD80B = (false, false, 0x0011) := by decide
theorem test_step_BRZ_SHL_untaken :
    goes .topBit 0x1234 0x0010 0xDC0B = (false, false, 0x0011) := by decide
theorem test_step_BRN_MOVA_taken :
    goes .topBit 0xFFFD 0x0010 0xC20B = (true, false, 0x0013) := by decide
theorem test_step_BRN_MOVA_untaken :
    goes .topBit 0x7FFF 0x0010 0xC20B = (false, false, 0x0011) := by decide
theorem test_step_BRN_ADD_taken :
    goes .topBit 0x8000 0x0010 0xC60B = (true, false, 0x0013) := by decide
theorem test_step_BRN_ADD_untaken :
    goes .topBit 0x7FFC 0x0010 0xC60B = (false, false, 0x0011) := by decide
theorem test_step_BRN_SUB1_taken :
    goes .topBit 0x0000 0x0010 0xCA0B = (true, false, 0x0013) := by decide
theorem test_step_BRN_SUB1_untaken :
    goes .topBit 0x0004 0x0010 0xCA0B = (false, true, 0x0011) := by decide
theorem test_step_BRN_DEC_taken :
    goes .topBit 0x0000 0x0010 0xCE0B = (true, false, 0x0013) := by decide
theorem test_step_BRN_DEC_untaken :
    goes .topBit 0x0001 0x0010 0xCE0B = (false, true, 0x0011) := by decide
theorem test_step_BRN_AND_untaken :
    goes .topBit 0xFFFF 0x0010 0xD20B = (false, false, 0x0011) := by decide
theorem test_step_BRN_XOR_taken :
    goes .topBit 0xFFFD 0x0010 0xD60B = (true, false, 0x0013) := by decide
theorem test_step_BRN_XOR_untaken :
    goes .topBit 0x0003 0x0010 0xD60B = (false, true, 0x0011) := by decide
theorem test_step_BRN_MOVB_untaken :
    goes .topBit 0x1234 0x0010 0xDA0B = (false, false, 0x0011) := by decide
theorem test_step_BRN_SHL_untaken :
    goes .topBit 0x1234 0x0010 0xDE0B = (false, false, 0x0011) := by decide
theorem test_step_JMP : goes .topBit 0x0010 0x0005 0xE008 = (false, false, 0x0010) := by decide
theorem test_branch_da4_top_bit : goes .topBit 0 0x0040 0xC100 = (false, true, 0x0020) := by decide
theorem test_branch_da4_gt4 : goes .gt4 0 0x0040 0xC100 = (false, true, 0x0060) := by decide
theorem test_branch_minus_24 : goes .gt4 0 0x0010 0xC140 = (false, true, 0xFFF8) := by decide
theorem test_branch_wraps_down : goes .topBit 0 0x0002 0xC1C0 = (false, true, 0xFFFA) := by decide
theorem test_branch_wraps_up : goes .topBit 0 0xFFFE 0xC003 = (false, true, 0x0001) := by decide
theorem test_untaken_at_top : goes .topBit 1 0xFFFF 0xC00B = (false, false, 0x0000) := by decide

/-! ## Code 15 under `dump` (95_test_vectors.md 2.7), reset (S3), launch (S8), memory -/

/-- The start state of section 2.7 under the dump variant. -/
def dumpState : State :=
  { vectorState false false with config := { Config.specDefault with fs15Variant := .dump } }

theorem test_dump_HALT : seen (after dumpState 0x1E5A) 1 = (0x1234, false, false, true) := by decide
theorem test_dump_HALTI : seen (after dumpState 0x9F67) 5 = (0x7FFF, false, false, true) := by decide
theorem test_dump_ST_HALT :
    let t := after dumpState 0x5E0B
    (t.readDM 0x1234, t.n, t.z, t.running) = (0x0003, false, true, true) := by decide
theorem test_dump_goes_to_host :
    (stepDump (dumpState.withFetchWord 16 0x5E0B)).map (·.dataMemory) =
      some [(0x0F0F, 0x0123), (0x1234, 0x0003), (0x8000, 0x8001)] := by decide
theorem test_no_dump_from_load : stepDump (dumpState.withFetchWord 16 0x3E00) = none := by decide

/-- S3: the first cycle fetches from 0 though `ir` holds `JMP R1` and `pc` is 0x1234. -/
theorem test_first_cycle :
    let t := after { State.reset with pc := 0x1234, ir := 0xE008,
                                      x := State.reset.x.set 1 0x0055 } 0x1E00
    (t.pc, t.ir, t.resetFlag, t.running, t.z) = (0x0000, 0x1E00, false, false, true) := by decide

/-- S8: the data image `1234`, `abcd`, `7`. -/
theorem test_launch_data_image :
    (launch Config.specDefault
      [some [], some [.literal 0x1234, .literal 0xABCD, .literal 7]]).toOption.map (·.dm) =
      some [(0, 0x1234), (1, 0xABCD), (2, 0x0007)] := by decide
theorem test_launch_literal_too_large :
    (launch Config.specDefault [some [], some [.literal 0x10000]]).toOption = none := by decide
theorem test_launch_malformed_line :
    (launch Config.specDefault [some [.notHex], some []]).toOption = none := by decide

/-- Writing 0 unlists a word; writing in between keeps the addresses rising. -/
theorem test_memory_write_zero : Memory.write [(3, 0x0005), (7, 0x0001)] 3 0 = [(7, 0x0001)] := by
  decide
theorem test_memory_write_between :
    Memory.write [(3, 0x0005), (7, 0x0001)] 5 9 = [(3, 0x0005), (5, 0x0009), (7, 0x0001)] := by decide

/-- The packed status word: N alone is bit 1 (10_state.md R36). -/
theorem test_status_word : (vectorState true false).statusWord = 0x0002 := by decide

/-! ## A witness for the hypotheses of each statement that has some -/

/-- A running state past reset with a word in `ir`, at 0x0010, R1 = 0x1234 and R4 = 0xFFFF (section 2.3). -/
def inCycle (ir : Word) : State := { vectorState false false with pc := 0x0010, ir := ir }

/-- A running state past reset whose next step fetches the word. -/
def fetching (w : Word) : State := placeAtFetch (vectorState false false) w

theorem witness_DecoderFunctionSelect : (bundle 0xDFFF).pl = true := by decide

/-- Both ends of the displacement range under both rules. -/
theorem witness_BranchOffsetTable :
    displacementWellFormed .topBit (-32) = true ∧ displacementWellFormed .topBit 31 = true ∧
    displacementWellFormed .gt4 (-24) = true ∧ displacementWellFormed .gt4 39 = true := by decide

theorem witness_HaltForms :
    (vectorState false false).config.fs15Variant = .halt ∧ dumpState.config.fs15Variant = .dump := by
  decide

theorem witness_Loads :
    (inCycle 0x3FDD).ir = 0x2000 ||| operandBitsWith 15 7 3 5 ∧ (inCycle 0x3FDD).resetFlag = false ∧
    (inCycle 0xA0C8).ir = 0xA000 ||| operandBitsWith 0 3 1 0 ∧ (inCycle 0xA0C8).resetFlag = false := by
  decide

theorem witness_StoreKeepingFlags :
    (inCycle 0x7FDF).ir = 0x6000 ||| operandBitsWith 15 7 3 7 ∧ (inCycle 0x7FDF).resetFlag = false := by
  decide

theorem witness_Jump :
    (inCycle 0xE008).ir = 0xE000 ||| operandBitsWith 0 0 1 0 ∧ (inCycle 0xE008).resetFlag = false := by
  decide

/-- A taken and an untaken BRZ.MOVA: R0 = 0 and R1 = 0x1234. -/
theorem witness_BranchOnZero :
    (inCycle 0xC003).ir = 0xC000 ||| operandBits 0 0 3 ∧ (inCycle 0xC003).resetFlag = false ∧
    ((inCycle 0xC003).reg 0).toNat = 0 ∧
    (inCycle 0xC00B).ir = 0xC000 ||| operandBits 0 1 3 ∧ ((inCycle 0xC00B).reg 1).toNat ≠ 0 := by
  decide

/-- A taken and an untaken BRN.MOVA: R4 = 0xFFFF and R5 = 0x7FFF, beside the sign bit's boundary. -/
theorem witness_BranchOnNegative :
    (inCycle 0xC223).ir = 0xC200 ||| operandBits 0 4 3 ∧ (inCycle 0xC223).resetFlag = false ∧
    32768 ≤ ((inCycle 0xC223).reg 4).toNat ∧
    (inCycle 0xC22B).ir = 0xC200 ||| operandBits 0 5 3 ∧ ¬32768 ≤ ((inCycle 0xC22B).reg 5).toNat := by
  decide

/-- One state for each of the controller's five cases. -/
theorem witness_ControllerCases :
    State.reset.resetFlag = true ∧
    (inCycle 0xE008).resetFlag = false ∧ (inCycle 0xE008).ir.toNat / 8192 = 7 ∧
    (inCycle 0xC20B).ir.toNat / 8192 = 6 ∧ (inCycle 0xC20B).ir.toNat / 512 % 2 = 1 ∧
    (inCycle 0xC00B).ir.toNat / 8192 = 6 ∧ (inCycle 0xC00B).ir.toNat / 512 % 2 = 0 ∧
    (inCycle 0x04CA).ir.toNat / 8192 = 0 := by decide

theorem witness_StepRunsDecodedInstruction : State.reset.running = true := rfl

theorem witness_StepIsCycle : (fetching 0x5E0B).running = true := rfl

/-- A running state and the state its step answers. -/
theorem running_step : (fetching 0x04CA).running = true ∧ ∃ t, step (fetching 0x04CA) = .next t :=
  ⟨rfl, _, rfl⟩

theorem witness_SuccessorAgreesWithController :
    (fetching 0xC00B).running = true ∧ ∃ t, step (fetching 0xC00B) = .next t := ⟨rfl, _, rfl⟩

theorem witness_HaltedCoreStays : (vectorState false false).stop.running = false := rfl

theorem reset_inv : State.reset.Inv := ⟨rfl, rfl, rfl, rfl, by decide⟩

theorem witness_InvariantKept : State.reset.Inv ∧ ∃ t, step State.reset = .next t :=
  ⟨reset_inv, _, rfl⟩

/-- Two images that load: `2200`, `1e00` and `1234`. -/
theorem witness_InvariantAtLaunch : ∃ s, launch Config.specDefault
    [some [.literal 0x2200, .literal 0x1E00], some [.literal 0x1234]] = .ok s := ⟨_, rfl⟩

theorem witness_EveryLaunchedRunIsSafe : ∃ s, launch Config.specDefault
    [some [.literal 0x2200, .literal 0x1E00], some []] = .ok s := ⟨_, rfl⟩

theorem witness_FirstCycleStartsAtZero :
    State.reset.running = true ∧ State.reset.resetFlag = true ∧
    (fetching 0x04CA).resetFlag = false ∧ ∃ t, step (fetching 0x04CA) = .next t :=
  ⟨rfl, rfl, rfl, _, rfl⟩

theorem witness_PcAndIrBeforeResetAreIrrelevant :
    State.reset.running = true ∧ State.reset.resetFlag = true := ⟨rfl, rfl⟩

theorem witness_InstructionMemoryAndParametersFixed : ∃ t, step (fetching 0x400A) = .next t :=
  ⟨_, rfl⟩

/-- A step that clears the run flag, and one that keeps it. -/
theorem witness_RunEndsOnlyByCode15 :
    (fetching 0x1E00).running = true ∧ (∃ t, step (fetching 0x1E00) = .next t ∧ t.running = false) ∧
    ∃ t, step (fetching 0x3E00) = .next t ∧ t.running = true :=
  ⟨rfl, ⟨_, rfl, rfl⟩, _, rfl, rfl⟩

theorem witness_LoadPathKeepsFlags :
    (fetching 0x20C8).running = true ∧
    ((fetching 0x20C8).readIM (nextPc (fetching 0x20C8))).toNat / 8192 % 2 = 1 ∧
    ∃ t, step (fetching 0x20C8) = .next t := ⟨rfl, by decide, _, rfl⟩

theorem witness_FlagsFromFunctionUnit :
    (fetching 0x400A).running = true ∧
    ((fetching 0x400A).readIM (nextPc (fetching 0x400A))).toNat / 8192 % 2 = 0 ∧
    ∃ t, step (fetching 0x400A) = .next t := ⟨rfl, by decide, _, rfl⟩

theorem witness_RegisterWriteDiscipline :
    (fetching 0x400A).running = true ∧ ∃ t, step (fetching 0x400A) = .next t := ⟨rfl, _, rfl⟩

/-- A word of class 01 and one of another class. -/
theorem witness_DataMemoryWriteDiscipline :
    ((fetching 0x400A).readIM (nextPc (fetching 0x400A))).toNat / 16384 = 1 ∧
    (∃ t, step (fetching 0x400A) = .next t) ∧
    ((fetching 0x8400).readIM (nextPc (fetching 0x8400))).toNat / 16384 ≠ 1 ∧
    ∃ t, step (fetching 0x8400) = .next t := ⟨by decide, ⟨_, rfl⟩, by decide, _, rfl⟩

theorem witness_CarryAndOverflowReserved : ∃ t, step (fetching 0x04CA) = .next t := ⟨_, rfl⟩

theorem witness_EqualReadsEqualMemories :
    Memory.wf [(0x0000, 0x1234), (0xFFFF, 0x0004)] = true := by decide

theorem witness_LaunchLoadsImages :
    [0x1234, 0xFFFF].length ≤ 65536 ∧ ∀ v ∈ [0x1234, 0xFFFF], v ≤ 0xFFFF := by decide

/-- A launch that fails and one that succeeds. -/
theorem witness_LaunchFailsExactlyOnBadInput :
    (launch Config.specDefault [some []]).toOption = none ∧
    ∃ s, launch Config.specDefault [some [], some [.literal 0xFFFF]] = .ok s := ⟨rfl, _, rfl⟩

/-- A run that ends within one cycle. -/
theorem witness_RunEnd :
    (fetching 0x1E00).running = true ∧ ∃ t, runUntilHalt 1 (fetching 0x1E00) = some t :=
  ⟨rfl, _, rfl⟩

theorem witness_DumpVariantNeverEnds :
    dumpState.running = true ∧ dumpState.config.fs15Variant = .dump := ⟨rfl, rfl⟩

/-- A code 15 word and another word under `dump`, and the same word under `halt`. -/
theorem witness_DumpIsOutputOfCode15 :
    (placeAtFetch dumpState 0x1FFF).config.fs15Variant = .dump ∧
    Code15Word ((placeAtFetch dumpState 0x1FFF).readIM (nextPc (placeAtFetch dumpState 0x1FFF))) ∧
    (∃ t, step (placeAtFetch dumpState 0x1FFF) = .next t) ∧
    ¬Code15Word ((placeAtFetch dumpState 0x2000).readIM (nextPc (placeAtFetch dumpState 0x2000))) ∧
    (∃ t, step (placeAtFetch dumpState 0x2000) = .next t) ∧
    (fetching 0x1FFF).config.fs15Variant = .halt ∧ ∃ t, step (fetching 0x1FFF) = .next t :=
  ⟨rfl, by unfold Code15Word; decide, ⟨_, rfl⟩, by unfold Code15Word; decide, ⟨_, rfl⟩, rfl, _, rfl⟩

end Sys2Proof.Tests
end

section
/-! SUPPORT. The meaning of every decoded instruction is the bundle-driven cycle (spec/40_cycle.md R104 to R107,
R109): first what the phases do, then each class of words (30_encoding.md R75), then one inversion of `step`. -/

namespace Sys2Proof.Machine

/-! ## What phases 4 to 7 do -/

/-- Everything phases 4 to 7 change: the registers, N, Z, the run flag and data memory. -/
theorem executePhases_eq (p : Bundle) (s : State) :
    executePhases p s =
      { s with
        x := if p.rw then (s.setReg p.da (cycleResult p s)).x else s.x
        n := if p.md then s.n else negativeFlag (cycleFunctionUnit p s).f
        z := if p.md then s.z else zeroFlag (cycleFunctionUnit p s).f
        running := if p.md then s.running else s.running && !(cycleFunctionUnit p s).halt
        dm := if p.mw then s.dm.write (s.reg p.aa) (zext16 p.ba) else s.dm } := by
  unfold executePhases registerWritePhase resultPhase memoryWritePhase
  split <;> split <;> split <;> rfl

/-- The function unit reads the registers and the parameters, and nothing else. -/
theorem cycleFunctionUnit_congr (p : Bundle) {s t : State} (hx : t.x = s.x) (hc : t.config = s.config) :
    cycleFunctionUnit p t = cycleFunctionUnit p s := by
  simp [cycleFunctionUnit, cycleOperandB, reg_congr hx, hc]

/-- The cycle's result reads data memory too, and nothing else. -/
theorem cycleResult_congr (p : Bundle) {s t : State} (hx : t.x = s.x) (hc : t.config = s.config)
    (hd : t.dm = s.dm) : cycleResult p t = cycleResult p s := by
  have hdm : (memoryWritePhase p t).dm = (memoryWritePhase p s).dm := by
    unfold memoryWritePhase; split <;> simp [hd, reg_congr hx]
  simp [cycleResult, readDM_congr hdm, cycleFunctionUnit_congr p hx hc, reg_congr hx]

/-- What a function-select code does to the run: code 15 may end it (46_system.md R260), no other code does. -/
def State.afterCode (s : State) (fs : FsCode) : State := if fs = 15 then s.code15 else s

theorem afterCode_fifteen (s : State) : s.afterCode 15 = s.code15 := rfl

theorem afterCode_of_ne (s : State) {fs : FsCode} (h : fs ≠ 15) : s.afterCode fs = s := if_neg h

/-- Code 15's end of the run and the flag write commute: they touch different fields. -/
theorem code15_setFlags (s : State) (f : Word) : (s.setFlags f).code15 = s.code15.setFlags f := by
  rw [code15_eq, code15_eq, setFlags_config]
  split <;> rfl

theorem afterCode_setFlags (s : State) (fs : FsCode) (f : Word) :
    (s.setFlags f).afterCode fs = (s.afterCode fs).setFlags f := by
  by_cases hfs : fs = 15
  · rw [hfs, afterCode_fifteen, afterCode_fifteen, code15_setFlags]
  · rw [afterCode_of_ne _ hfs, afterCode_of_ne _ hfs]

/-- Phase 6 of a cycle with MD = 0, in the operations the instructions' meanings are made of. -/
theorem resultPhase_functionUnit (p : Bundle) (hmd : p.md = false) (s : State) (fs : FsCode) (a b xd : Word) :
    resultPhase p (functionUnit s.config.fs15Variant fs a b xd) s =
      (s.afterCode fs).setFlags (fuResult s.config.fs15Variant fs a b xd) := by
  by_cases hfs : fs = 15
  · subst hfs
    rw [afterCode_fifteen]
    cases hv : s.config.fs15Variant <;>
      simp [resultPhase, functionUnit, State.setFlags, State.code15, State.stop, hmd, hv]
  · have hcode : (fs == 15) = false := beq_eq_false_iff_ne.mpr hfs
    simp only [resultPhase, functionUnit, hmd, hcode, afterCode_of_ne s hfs]
    simp [State.setFlags]

theorem memoryWritePhase_config (p : Bundle) (s : State) :
    (memoryWritePhase p s).config = s.config := by
  unfold memoryWritePhase; split <;> rfl

/-- Phases 4 to 7 with MD = 0: the flags, and perhaps the end of the run, from the function unit. -/
theorem executePhases_functionUnit (p : Bundle) (s : State) (hmd : p.md = false) :
    executePhases p s =
      registerWritePhase p (cycleFunctionUnit p s).f
        (((memoryWritePhase p s).afterCode p.fs).setFlags (cycleFunctionUnit p s).f) := by
  have hr : cycleResult p s = (cycleFunctionUnit p s).f := by simp [cycleResult, hmd]
  rw [executePhases, hr, cycleFunctionUnit, ← memoryWritePhase_config p s, resultPhase_functionUnit p hmd]
  rfl

/-- Phases 4 to 7 with MD = 1: nothing but the memory write and the register write. -/
theorem executePhases_bypass (p : Bundle) (s : State) (hmd : p.md = true) :
    executePhases p s =
      registerWritePhase p ((memoryWritePhase p s).readDM (s.reg p.aa)) (memoryWritePhase p s) := by
  simp [executePhases, cycleResult, resultPhase, hmd]

/-! ## What each class of words means, for every function-select code -/

/-- A register ALU instruction writes the result of its code on `x[a]` and `x[b]` (42_alu_register.md). -/
theorem exec_decodeRegister (s : State) (f : FsCode) (d a b : Field3) :
    exec (decodeRegister f.toNat d a b) s =
      .next ((s.afterCode f).writeResult d
        (fuResult s.config.fs15Variant f (s.reg a) (s.reg b) (s.reg d))) := by
  obtain ⟨⟨f, hf⟩⟩ := f
  interval_cases f <;> rfl

/-- An immediate ALU instruction writes the result of its code on `x[a]` and the raw field
(43_alu_immediate.md). -/
theorem exec_decodeImmediate (s : State) (f : FsCode) (d a b : Field3) :
    exec (decodeImmediate f.toNat d a b) s =
      .next ((s.afterCode f).writeResult d
        (fuResult s.config.fs15Variant f (s.reg a) (zext16 b) (s.reg d))) := by
  obtain ⟨⟨f, hf⟩⟩ := f
  interval_cases f <;> rfl

/-- A store writes its literal and the flags of its code on `x[a]` and `x[k]` (44_load_store.md). -/
theorem exec_decodeStore (s : State) (f : FsCode) (d a k : Field3) :
    exec (decodeStore f.toNat d a k) s =
      .next ((s.storeAndFlag a k
        (fuResult s.config.fs15Variant f (s.reg a) (s.reg k) (s.reg d))).afterCode f) := by
  obtain ⟨⟨f, hf⟩⟩ := f
  interval_cases f <;> rfl

/-- The code a branch runs, `w[12:10]` with a forced 0 below it (30_encoding.md R74), is even. -/
theorem evenCode_toNat (h : BitVec 3) : (h ++ 0#1).toNat = 2 * h.toNat := by
  rw [BitVec.toNat_append]
  simp [Nat.shiftLeft_eq, Nat.mul_comm]

/-- A branch's code never ends the run. -/
theorem afterCode_evenCode (s : State) (h : BitVec 3) : s.afterCode (h ++ 0#1) = s := by
  refine afterCode_of_ne s fun h15 => ?_
  have hodd : (h ++ 0#1).toNat = 15 := congrArg BitVec.toNat h15
  rw [evenCode_toNat] at hodd
  omega

/-- A conditional branch, on N or on Z, writes the flags of its even code on `x[a]` and the raw field
(45_control_transfer.md R229 to R244). -/
theorem exec_decodeBranch (s : State) (onN : Bool) (h d a k : Field3) :
    exec (if onN then decodeBrn h.toNat d a k else decodeBrz h.toNat d a k) s =
      .next ((s.afterCode (h ++ 0#1)).setFlags
        (fuResult s.config.fs15Variant (h ++ 0#1) (s.reg a) (zext16 k) (s.reg d))) := by
  rw [afterCode_evenCode, fuResult, evenCode_toNat]
  obtain ⟨⟨h, hh⟩⟩ := h
  cases onN <;> interval_cases h <;> rfl

/-! ## The eight classes of words (30_encoding.md R75, R80) -/

theorem class_cases : ∀ cls : BitVec 3,
    cls = 0b000 ∨ cls = 0b001 ∨ cls = 0b010 ∨ cls = 0b011 ∨
    cls = 0b100 ∨ cls = 0b101 ∨ cls = 0b110 ∨ cls = 0b111 := by decide

section
variable (f : FsCode) (d a b : Field3)

/-- The bundle of an assembled word (R71 to R74). -/
theorem bundle_assemble (cls : BitVec 3) :
    bundle (assemble cls f d a b) =
      { da := d, aa := a, ba := b
        fs := if cls[2] && cls[1] then f.extractLsb' 1 3 ++ 0#1 else f
        mb := cls[2], md := cls[0], rw := !cls[1], mw := !cls[2] && cls[1]
        pl := cls[2] && cls[1], jb := cls[0], bc := f[0] } := by
  simp [bundle, selectFs]

theorem decode_class0 : decode (assemble 0b000 f d a b) = decodeRegister f.toNat d a b := by
  simp [decode]

theorem decode_class1 : decode (assemble 0b001 f d a b) = .ld d a := by
  simp [decode]

theorem decode_class2 : decode (assemble 0b010 f d a b) = decodeStore f.toNat d a b := by
  simp [decode]

theorem decode_class3 : decode (assemble 0b011 f d a b) = .stNf a b := by
  simp [decode]

theorem decode_class4 : decode (assemble 0b100 f d a b) = decodeImmediate f.toNat d a b := by
  simp [decode]

theorem decode_class5 : decode (assemble 0b101 f d a b) = .ldMb d a := by
  simp [decode]

theorem decode_class6 : decode (assemble 0b110 f d a b) =
    if f[0] then decodeBrn (f.extractLsb' 1 3).toNat d a b
    else decodeBrz (f.extractLsb' 1 3).toNat d a b := by
  simp [decode]

theorem decode_class7 : decode (assemble 0b111 f d a b) = .jmp a := by
  simp [decode]

end

/-! ## The meaning of a decoded word is phases 4 to 7 -/

/-- Every instruction's own meaning is what its word's bundle makes phases 4 to 7 do. -/
theorem exec_decode (w : Word) (s : State) :
    exec (decode w) s = .next (executePhases (bundle w) s) := by
  rw [← assemble_fields w]
  generalize fieldFs w = f, fieldDa w = d, fieldAa w = a, fieldBa w = b
  obtain h | h | h | h | h | h | h | h := class_cases (fieldClass w) <;> rw [h, bundle_assemble]
  · rw [decode_class0, exec_decodeRegister, executePhases_functionUnit _ _ rfl]
    rfl
  · rw [decode_class1, executePhases_bypass _ _ rfl]
    rfl
  · rw [decode_class2, exec_decodeStore, executePhases_functionUnit _ _ rfl, State.storeAndFlag,
      afterCode_setFlags]
    rfl
  · rw [decode_class3, executePhases_bypass _ _ rfl]
    rfl
  · rw [decode_class4, exec_decodeImmediate, executePhases_functionUnit _ _ rfl]
    rfl
  · rw [decode_class5, executePhases_bypass _ _ rfl]
    rfl
  · rw [decode_class6, exec_decodeBranch, executePhases_functionUnit _ _ rfl]
    rfl
  · rw [decode_class7, executePhases_bypass _ _ rfl]
    rfl

/-! ## One step -/

/-- The word a cycle executes is fetched from where the controller points. -/
theorem fetched_ir (s : State) : (fetched s).ir = s.readIM (nextPc s) := rfl

/-- A step of a running state is phases 4 to 7 of the fetched word. -/
theorem step_of_running {s : State} (h : s.running = true) :
    step s = .next (executePhases (bundle (s.readIM (nextPc s))) (fetched s)) := by
  rw [step, if_pos h, exec_decode, fetched_ir]

theorem step_of_halted {s : State} (h : s.running = false) : step s = .next s := by
  simp [step, h]

/-- What a step can answer: the cycle of the fetched word, or, once halted, the same state. -/
theorem step_cases {s t : State} (h : step s = .next t) :
    (s.running = true ∧ t = executePhases (bundle (s.readIM (nextPc s))) (fetched s)) ∨
    (s.running = false ∧ t = s) := by
  cases hr : s.running with
  | true => rw [step_of_running hr] at h; cases h; exact .inl ⟨rfl, rfl⟩
  | false => rw [step_of_halted hr] at h; cases h; exact .inr ⟨rfl, rfl⟩

end Sys2Proof.Machine
end

section
/-! SUPPORT. What one cycle keeps and what it writes: the invariant, the registers, N and Z, C and V. -/

namespace Sys2Proof.Machine

/-! ## The invariant -/

theorem fetched_inv {s : State} (hs : s.Inv) : (fetched s).Inv :=
  { im_wf := hs.im_wf, dm_wf := hs.dm_wf, c_zero := hs.c_zero, v_zero := hs.v_zero
    run_state := fun ⟨hreset, _⟩ => Bool.false_ne_true hreset }

/-- Phases 4 to 7 keep the invariant once the reset flag is spent: a cycle may end the run, but the only memory
it writes is data memory, and a write keeps the canonical form. -/
theorem executePhases_inv (p : Bundle) {s : State} (hs : s.Inv) (hreset : s.resetFlag = false) :
    (executePhases p s).Inv := by
  rw [executePhases_eq]
  refine
    { im_wf := hs.im_wf, dm_wf := ?_, c_zero := hs.c_zero, v_zero := hs.v_zero
      run_state := fun ⟨hset, _⟩ => Bool.false_ne_true (hreset.symm.trans hset) }
  show (if p.mw then s.dm.write (s.reg p.aa) (zext16 p.ba) else s.dm).wf = true
  split
  · exact write_wf _ _ _ hs.dm_wf
  · exact hs.dm_wf

/-! ## Registers -/

/-- Phases 4 to 7 write one register at most: DA, with the cycle's result, where RW = 1 (10_state.md R24). -/
theorem reg_executePhases (p : Bundle) (s : State) (r : Field3) :
    (executePhases p s).reg r = if p.rw = true ∧ r = p.da then cycleResult p s else s.reg r := by
  have hx : (executePhases p s).x = if p.rw then (s.setReg p.da (cycleResult p s)).x else s.x := by
    rw [executePhases_eq]
  cases hrw : p.rw with
  | true =>
    rw [hrw, if_pos rfl] at hx
    rw [reg_congr hx, reg_setReg]
    simp
  | false =>
    rw [hrw, if_neg Bool.false_ne_true] at hx
    rw [reg_congr hx]
    simp

/-! ## N and Z -/

/-- With MD = 1 the function unit is bypassed and the flags stay (10_state.md R33). -/
theorem executePhases_sameFlags (p : Bundle) (s : State) (hmd : p.md = true) :
    SameFlags s (executePhases p s) := by
  simp [executePhases_eq, SameFlags, hmd]

/-- With MD = 0 both flags are those of the function unit's result (40_cycle.md R106). -/
theorem executePhases_flagsOf (p : Bundle) (s : State) (hmd : p.md = false) :
    FlagsOf (cycleFunctionUnit p s).f.toNat (executePhases p s) := by
  simp [executePhases_eq, FlagsOf, hmd, negativeFlag_iff, zeroFlag_iff]

/-! ## C and V -/

/-- Giving C and V other values changes phases 4 to 7 in those two bits only. -/
theorem executePhases_with_cv (p : Bundle) (s : State) (c v : Bool) :
    executePhases p { s with c := c, v := v } = { executePhases p s with c := c, v := v } := by
  have hr : cycleResult p { s with c := c, v := v } = cycleResult p s := cycleResult_congr p rfl rfl rfl
  have hf : cycleFunctionUnit p { s with c := c, v := v } = cycleFunctionUnit p s :=
    cycleFunctionUnit_congr p rfl rfl
  rw [executePhases_eq, executePhases_eq p s, hr, hf]
  rfl

/-- Neither the controller nor the fetch reads C or V. -/
theorem fetched_with_cv (s : State) (c v : Bool) :
    fetched { s with c := c, v := v } = { fetched s with c := c, v := v } := rfl

end Sys2Proof.Machine

namespace Sys2Proof

/-! ## The class bits of a word as numbers (30_encoding.md R72, R73) -/

theorem bundle_md_iff (w : Word) : (bundle w).md = true ↔ w.toNat / 8192 % 2 = 1 := by
  simp [bundle, BitVec.getLsbD, Nat.testBit_eq_decide_div_mod_eq]

theorem bundle_rw_iff (w : Word) : (bundle w).rw = true ↔ w.toNat / 16384 % 2 = 0 := by
  simp [bundle, BitVec.getLsbD, Nat.testBit_eq_decide_div_mod_eq]

/-! ## The instructions that bypass the function unit (10_state.md R33) -/

/-- LD, LD.MB, ST.NF and JMP. -/
def Instr.bypassesFunctionUnit : Instr → Bool
  | .ld _ _ => true
  | .ldMb _ _ => true
  | .stNf _ _ => true
  | .jmp _ => true
  | _ => false

theorem bypassesFunctionUnit_iff (i : Instr) :
    i.bypassesFunctionUnit = true ↔
      (∃ d a, i = .ld d a) ∨ (∃ d a, i = .ldMb d a) ∨ (∃ a k, i = .stNf a k) ∨ ∃ a, i = .jmp a := by
  cases i <;> simp [Instr.bypassesFunctionUnit]

section
variable (f : Nat) (d a b : Field3)

theorem bypassesFunctionUnit_decodeRegister : (decodeRegister f d a b).bypassesFunctionUnit = false := by
  unfold decodeRegister; split <;> rfl

theorem bypassesFunctionUnit_decodeImmediate : (decodeImmediate f d a b).bypassesFunctionUnit = false := by
  unfold decodeImmediate; split <;> rfl

theorem bypassesFunctionUnit_decodeStore : (decodeStore f d a b).bypassesFunctionUnit = false := by
  unfold decodeStore; split <;> rfl

theorem bypassesFunctionUnit_decodeBranch (onN : Bool) :
    (if onN then decodeBrn f d a b else decodeBrz f d a b).bypassesFunctionUnit = false := by
  cases onN
  · show (decodeBrz f d a b).bypassesFunctionUnit = false
    unfold decodeBrz; split <;> rfl
  · show (decodeBrn f d a b).bypassesFunctionUnit = false
    unfold decodeBrn; split <;> rfl

end

open Machine in
/-- MD = 1 marks exactly the words of these four instructions. -/
theorem bundle_md_eq_bypasses (w : Word) : (bundle w).md = (decode w).bypassesFunctionUnit := by
  rw [← assemble_fields w]
  generalize fieldFs w = f, fieldDa w = d, fieldAa w = a, fieldBa w = b
  obtain h | h | h | h | h | h | h | h := class_cases (fieldClass w) <;> rw [h, bundle_assemble]
  · rw [decode_class0, bypassesFunctionUnit_decodeRegister]; rfl
  · rw [decode_class1]; rfl
  · rw [decode_class2, bypassesFunctionUnit_decodeStore]; rfl
  · rw [decode_class3]; rfl
  · rw [decode_class4, bypassesFunctionUnit_decodeImmediate]; rfl
  · rw [decode_class5]; rfl
  · rw [decode_class6, bypassesFunctionUnit_decodeBranch]; rfl
  · rw [decode_class7]; rfl

end Sys2Proof
end

section
/-! SUPPORT. Memories in canonical form are determined by what they read. -/

namespace Sys2Proof.Machine

/-- A memory whose entries start at `low` reads as unlisted below it. -/
theorem read_below_wfFrom {m : Memory} {low : Nat} (hm : Memory.wfFrom low m = true) {a : Word}
    (ha : a.toNat < low) : m.read a = unlistedWord := by
  induction m generalizing low with
  | nil => rfl
  | cons e m ih =>
    obtain ⟨k, w⟩ := e
    obtain ⟨hlow, -, -, hrest⟩ := (wfFrom_cons ..).mp hm
    rw [read_cons, if_neg (by omega)]
    exact ih hrest (by omega)

/-- The first entry of a canonical memory can be read at its address, and is not what an unlisted address reads. -/
theorem read_head_wfFrom {m : Memory} {low k : Nat} {w : Word}
    (hm : Memory.wfFrom low ((k, w) :: m) = true) :
    (BitVec.ofNat 16 k).toNat = k ∧ Memory.read ((k, w) :: m) (BitVec.ofNat 16 k) = w ∧
      w ≠ unlistedWord := by
  obtain ⟨-, hk, hw, -⟩ := (wfFrom_cons ..).mp hm
  have hto : (BitVec.ofNat 16 k).toNat = k := by rw [BitVec.toNat_ofNat]; omega
  exact ⟨hto, by rw [read_cons, hto, if_pos rfl], hw⟩

/-- The address of a canonical memory's first entry is not below that of a memory that reads alike. -/
theorem head_le_of_reads {m m' : Memory} {low low' k k' : Nat} {w w' : Word}
    (hm : Memory.wfFrom low ((k, w) :: m) = true) (hm' : Memory.wfFrom low' ((k', w') :: m') = true)
    (h : ∀ a, Memory.read ((k, w) :: m) a = Memory.read ((k', w') :: m') a) : k' ≤ k := by
  by_contra hlt
  obtain ⟨hto, hread, hw⟩ := read_head_wfFrom hm
  obtain ⟨-, hrest'⟩ := (wfFrom_cons ..).mp hm'
  have hm'' : Memory.wfFrom k' ((k', w') :: m') = true := (wfFrom_cons ..).mpr ⟨le_refl k', hrest'⟩
  have hbelow := read_below_wfFrom hm'' (a := BitVec.ofNat 16 k) (by omega)
  exact hw (by rw [← hread, h, hbelow])

/-- Canonical memories that read alike list the same entries. -/
theorem eq_of_read_eq {m m' : Memory} {low low' : Nat} (hm : Memory.wfFrom low m = true)
    (hm' : Memory.wfFrom low' m' = true) (h : ∀ a, m.read a = m'.read a) : m = m' := by
  induction m generalizing low low' m' with
  | nil =>
    cases m' with
    | nil => rfl
    | cons e' m' =>
      obtain ⟨-, hread, hw⟩ := read_head_wfFrom hm'
      exact absurd (hread.symm.trans (h _).symm) hw
  | cons e m ih =>
    obtain ⟨k, w⟩ := e
    obtain ⟨hto, hread, hw⟩ := read_head_wfFrom hm
    cases m' with
    | nil => exact absurd (hread.symm.trans (h _)) hw
    | cons e' m' =>
      obtain ⟨k', w'⟩ := e'
      have hk : k = k' := le_antisymm (head_le_of_reads hm' hm fun a => (h a).symm) (head_le_of_reads hm hm' h)
      subst hk
      obtain ⟨-, hread', -⟩ := read_head_wfFrom hm'
      have hww : w = w' := hread.symm.trans ((h _).trans hread')
      subst hww
      obtain ⟨-, -, -, hrest⟩ := (wfFrom_cons ..).mp hm
      obtain ⟨-, -, -, hrest'⟩ := (wfFrom_cons ..).mp hm'
      have htail : ∀ a, Memory.read m a = Memory.read m' a := by
        intro a
        by_cases ha : k = a.toNat
        · rw [read_below_wfFrom hrest (by omega), read_below_wfFrom hrest' (by omega)]
        · simpa [read_cons, ha] using h a
      rw [ih hrest hrest' htail]

end Sys2Proof.Machine
end

section
/-! SUPPORT. The statements of spec/10_state.md. -/

namespace Sys2Proof.Proofs

open Sys2Proof Sys2Proof.Machine

/-- Settles O30: a running state's cycle keeps the invariant phase by phase, a halted state stays. -/
theorem invariantKept : Obligations.InvariantKept := by
  intro s t hs h
  obtain ⟨-, rfl⟩ | ⟨-, rfl⟩ := step_cases h
  · exact executePhases_inv _ (fetched_inv hs) rfl
  · exact hs

/-- Settles O38: MD is bit 13 of the word, and phase 6 with MD = 1 writes no flag. -/
theorem loadPathKeepsFlags : Obligations.LoadPathKeepsFlags := by
  intro s t hrun h w
  rw [step_of_running hrun] at h
  cases h
  rw [← bundle_md_iff]
  refine ⟨executePhases_sameFlags (bundle w) (fetched s), ?_⟩
  rw [bundle_md_eq_bypasses, bypassesFunctionUnit_iff]

/-- Settles O39: phase 6 with MD = 0 takes both flags from the function unit, whatever RW, MW and PL. -/
theorem flagsFromFunctionUnit : Obligations.FlagsFromFunctionUnit := by
  intro s t hrun h hbit
  rw [step_of_running hrun] at h
  cases h
  have hmd : (bundle (s.readIM (nextPc s))).md = false := by
    rw [← Bool.not_eq_true, bundle_md_iff, hbit]
    exact Nat.zero_ne_one
  exact executePhases_flagsOf _ (fetched s) hmd

/-- Settles O40: phase 7 is the only register write of a cycle. -/
theorem registerWriteDiscipline : Obligations.RegisterWriteDiscipline := by
  intro s t hrun h w
  rw [step_of_running hrun] at h
  cases h
  have hresult : cycleResult (bundle w) (fetched s) = cycleResult (bundle w) s :=
    cycleResult_congr _ rfl rfl rfl
  constructor
  · intro r hr
    rw [reg_executePhases, if_neg fun ⟨_, hda⟩ => hr hda]
    rfl
  · rw [reg_executePhases, hresult]
    exact if_congr ((and_iff_left rfl).trans (bundle_rw_iff w)) rfl rfl

/-- Settles O42: no phase of a cycle writes C or V, and none reads them. -/
theorem carryAndOverflowReserved : Obligations.CarryAndOverflowReserved := by
  refine ⟨rfl, rfl, fun s t h => ?_, fun s t c v h => ?_⟩
  · obtain ⟨-, rfl⟩ | ⟨-, rfl⟩ := step_cases h
    · rw [executePhases_eq]
      exact ⟨rfl, rfl⟩
    · exact ⟨rfl, rfl⟩
  · obtain ⟨hrun, rfl⟩ | ⟨hhalt, rfl⟩ := step_cases h
    · rw [← executePhases_with_cv, ← fetched_with_cv]
      exact step_of_running (s := { s with c := c, v := v }) hrun
    · exact step_of_halted hhalt

/-- Settles O44, by induction on the two lists from their lowest addresses. -/
theorem equalReadsEqualMemories : Obligations.EqualReadsEqualMemories :=
  fun _ _ hm hm' h => eq_of_read_eq hm hm' h

/-- The four flags packed in the order of R36, over all sixteen values. -/
theorem packedFlags_toNat : ∀ z n c v : Bool,
    (0#12 ++ BitVec.ofBool v ++ BitVec.ofBool c ++ BitVec.ofBool n ++ BitVec.ofBool z).toNat =
      z.toNat + 2 * n.toNat + 4 * c.toNat + 8 * v.toNat := by decide

/-- Settles O43: the status word is the four flags packed. -/
theorem statusWordLayout : Obligations.StatusWordLayout :=
  fun s => packedFlags_toNat s.z s.n s.c s.v

end Sys2Proof.Proofs
end

section
/-! SUPPORT. What one cycle does to the two memories. -/

namespace Sys2Proof

/-- MW = 1 marks exactly the words of class 01 (30_encoding.md R73). -/
theorem bundle_mw_iff (w : Word) : (bundle w).mw = true ↔ w.toNat / 16384 = 1 := by
  have hbits : (bundle w).mw = true ↔ w.toNat / 32768 % 2 = 0 ∧ w.toNat / 16384 % 2 = 1 := by
    simp [bundle, BitVec.getLsbD, Nat.testBit_eq_decide_div_mod_eq]
  have hw : w.toNat < 65536 := w.isLt
  rw [hbits]
  omega

end Sys2Proof

namespace Sys2Proof.Machine

/-- The literal a store writes is a 3-bit field (44_load_store.md R192). -/
theorem zext16_toNat_le (k : Field3) : (zext16 k).toNat ≤ 7 :=
  (zext16_toNat k).trans_le (Nat.le_of_lt_succ k.isLt)

/-- No phase writes instruction memory (20_memory.md R59). -/
@[simp] theorem executePhases_im (p : Bundle) (s : State) : (executePhases p s).im = s.im := by
  rw [executePhases_eq]

@[simp] theorem executePhases_config (p : Bundle) (s : State) :
    (executePhases p s).config = s.config := by
  rw [executePhases_eq]

@[simp] theorem executePhases_dm (p : Bundle) (s : State) :
    (executePhases p s).dm = if p.mw then s.dm.write (s.reg p.aa) (zext16 p.ba) else s.dm := by
  rw [executePhases_eq]

/-- Phases 4 to 7 write one word of data memory at most: BA, zero-extended, at `x[AA]`, where MW = 1
(20_memory.md R52). -/
theorem readDM_executePhases (p : Bundle) (s : State) (a : Word) :
    (executePhases p s).readDM a =
      if p.mw = true ∧ a = effectiveAddress s p.aa then zext16 p.ba else s.readDM a := by
  rw [State.readDM, executePhases_dm]
  cases hmw : p.mw with
  | true => simp [read_write, State.readDM, effectiveAddress]
  | false => simp [State.readDM]

/-- With MW = 1 a cycle stores its literal, and changes no other word of either memory. -/
theorem executePhases_storesLiteral (p : Bundle) (s : State) (hmw : p.mw = true) :
    StoresLiteral s (executePhases p s) p.aa p.ba := by
  refine ⟨?_, fun a ha => ?_, readIM_congr (executePhases_im p s)⟩
  · rw [readDM_executePhases, if_pos ⟨hmw, rfl⟩, zext16_toNat]
  · rw [readDM_executePhases, if_neg fun ⟨_, haddr⟩ => ha haddr]

/-- With MW = 0 a cycle leaves all of data memory alone. -/
theorem executePhases_sameData (p : Bundle) (s : State) (hmw : ¬ p.mw = true) :
    SameData s (executePhases p s) := fun a => by
  rw [readDM_executePhases, if_neg fun ⟨hset, _⟩ => hmw hset]

/-- A word of data memory keeps its value through a cycle or becomes a 3-bit literal. -/
theorem readDM_executePhases_same_or_le (p : Bundle) (s : State) (a : Word) :
    (executePhases p s).readDM a = s.readDM a ∨ ((executePhases p s).readDM a).toNat ≤ 7 := by
  rw [readDM_executePhases]
  split
  · exact .inr (zext16_toNat_le p.ba)
  · exact .inl rfl

end Sys2Proof.Machine
end

section
/-! SUPPORT. The statements of spec/20_memory.md. -/

namespace Sys2Proof.Proofs

open Sys2Proof Sys2Proof.Machine

/-- Settles O36: a cycle writes neither field, and a halted state stays. -/
theorem instructionMemoryAndParametersFixed : Obligations.InstructionMemoryAndParametersFixed := by
  intro s t h
  obtain ⟨-, rfl⟩ | ⟨-, rfl⟩ := step_cases h
  · exact ⟨executePhases_im _ (fetched s), executePhases_config _ (fetched s)⟩
  · exact ⟨rfl, rfl⟩

/-- Settles O41: phase 5 is the only data-memory write of a cycle, and MW = 1 is class 01. -/
theorem dataMemoryWriteDiscipline : Obligations.DataMemoryWriteDiscipline := by
  intro s t hrun h w
  rw [step_of_running hrun] at h
  cases h
  rw [Ne, ← bundle_mw_iff]
  exact ⟨executePhases_storesLiteral (bundle w) (fetched s), executePhases_sameData (bundle w) (fetched s),
    readDM_executePhases_same_or_le (bundle w) (fetched s)⟩

end Sys2Proof.Proofs
end

section
/-! SUPPORT. Decoder and encoder as inverses of each other, up to the bits an instruction ignores, and the rows of
the opcode map (spec/30_encoding.md R80, R81, R84). -/

namespace Sys2Proof.Machine

/-! ## Decoding what was encoded (R80, R84) -/

/-- Each instruction's word lies in the class its family is decoded from, with the code of its member, so no
operand bit is dropped. -/
theorem decode_encode (i : Instr) : decode (encode i) = i := by
  cases i with
  | mova | inc | add | add1 | sub1 | sub | dec | mova2
  | and | or | xor | not | movb | shr | shl | halt => exact decode_class0 ..
  | ld => exact decode_class1 ..
  | stMova | stInc | stAdd | stAdd1 | stSub1 | stSub | stDec | stMova2
  | stAnd | stOr | stXor | stNot | stMovb | stShr | stShl | stHalt => exact decode_class2 ..
  | stNf => exact decode_class3 ..
  | movai | inci | addi | add1i | sub1i | subi | deci | mova2i
  | andi | ori | xori | noti | movbi | shri | shli | halti => exact decode_class4 ..
  | ldMb => exact decode_class5 ..
  | brzMova | brzAdd | brzSub1 | brzDec | brzAnd | brzXor | brzMovb | brzShl
  | brnMova | brnAdd | brnSub1 | brnDec | brnAnd | brnXor | brnMovb | brnShl => exact decode_class6 ..
  | jmp => exact decode_class7 ..

/-! ## Encoding what was decoded (R81) -/

section
variable (f : FsCode) (d a b : Field3)

theorem encode_decodeRegister : encode (decodeRegister f.toNat d a b) = assemble 0b000 f d a b := by
  obtain ⟨⟨f, hf⟩⟩ := f
  interval_cases f <;> rfl

theorem encode_decodeImmediate : encode (decodeImmediate f.toNat d a b) = assemble 0b100 f d a b := by
  obtain ⟨⟨f, hf⟩⟩ := f
  interval_cases f <;> rfl

/-- A store's word has DA = 0, but for code 15, whose DA is an operand (44_load_store.md R210). -/
theorem encode_decodeStore :
    encode (decodeStore f.toNat d a b) = assemble 0b010 f (if f.toNat = 15 then d else 0) a b := by
  obtain ⟨⟨f, hf⟩⟩ := f
  interval_cases f <;> rfl

/-- A code's bits are those the branch decoder splits it into. -/
theorem fsHigh_append_bc : f.extractLsb' 1 3 ++ BitVec.ofBool f[0] = f := by
  revert f; decide

/-- A branch's word has the high bits of its code in `w[12:10]` and, below them, BC. -/
theorem encode_decodeBranch :
    encode (if f[0] then decodeBrn (f.extractLsb' 1 3).toNat d a b
      else decodeBrz (f.extractLsb' 1 3).toNat d a b) = assemble 0b110 f d a b := by
  conv => rhs; rw [← fsHigh_append_bc f]
  generalize f.extractLsb' 1 3 = h, f[0] = onN
  obtain rfl | rfl | rfl | rfl | rfl | rfl | rfl | rfl := class_cases h <;> cases onN <;> rfl

end

section
variable (cls : BitVec 3) (f : FsCode) (d a b : Field3)

/-- A mask assembled from masks of the fields acts on each field. -/
theorem assemble_and_assemble (cls' : BitVec 3) (f' : FsCode) (d' a' b' : Field3) :
    assemble cls f d a b &&& assemble cls' f' d' a' b' =
      assemble (cls &&& cls') (f &&& f') (d &&& d') (a &&& a') (b &&& b') := by
  unfold assemble
  rw [← BitVec.and_append, ← BitVec.and_append, ← BitVec.and_append, ← BitVec.and_append]

/-- What LD and LD.MB read: the class bits, DA and AA. -/
theorem assemble_and_loadMask : assemble cls f d a b &&& 0xE1F8 = assemble cls 0 d a 0 :=
  (assemble_and_assemble cls f d a b (.allOnes 3) 0#4 (.allOnes 3) (.allOnes 3) 0#3).trans
    (by simp only [BitVec.and_allOnes, BitVec.and_zero]; rfl)

/-- What a store with code below 15 reads: all but DA. -/
theorem assemble_and_storeMask : assemble cls f d a b &&& 0xFE3F = assemble cls f 0 a b :=
  (assemble_and_assemble cls f d a b (.allOnes 3) (.allOnes 4) 0#3 (.allOnes 3) (.allOnes 3)).trans
    (by simp only [BitVec.and_allOnes, BitVec.and_zero]; rfl)

/-- What ST.NF reads: the class bits, AA and BA. -/
theorem assemble_and_stNfMask : assemble cls f d a b &&& 0xE03F = assemble cls 0 0 a b :=
  (assemble_and_assemble cls f d a b (.allOnes 3) 0#4 0#3 (.allOnes 3) (.allOnes 3)).trans
    (by simp only [BitVec.and_allOnes, BitVec.and_zero]; rfl)

/-- What JMP reads: the class bits and AA. -/
theorem assemble_and_jmpMask : assemble cls f d a b &&& 0xE038 = assemble cls 0 0 a 0 :=
  (assemble_and_assemble cls f d a b (.allOnes 3) 0#4 0#3 (.allOnes 3) 0#3).trans
    (by simp only [BitVec.and_allOnes, BitVec.and_zero]; rfl)

/-- The assembler's form of a word (R84): class and code bits, beside the operand fields in their places. -/
theorem assemble_eq_or_operandBits :
    assemble cls f d a b = assemble cls f 0 0 0 ||| operandBits d a b := by
  ext i hi
  simp only [operandBits, ← BitVec.getLsbD_eq_getElem, BitVec.getLsbD_or, BitVec.getLsbD_shiftLeft,
    BitVec.getLsbD_setWidth, getLsbD_assemble]
  interval_cases i <;> simp

end

/-! ## The rows of the opcode map (R80) -/

section
open Laws

open MatchesOpcodeMap in
/-- The row of every instruction, collected from the laws of the single instructions. -/
theorem matchesOpcodeMap (i : Instr) : MatchesOpcodeMap.Statement i := by
  cases i
  exacts [
    mova .., inc .., add .., add1 .., sub1 .., sub .., dec .., mova2 .., and .., or .., xor .., not ..,
    movb .., shr .., shl .., halt ..,
    movai .., inci .., addi .., add1i .., sub1i .., subi .., deci .., mova2i .., andi .., ori .., xori ..,
    noti .., movbi .., shri .., shli .., halti ..,
    ld .., ldMb ..,
    stMova .., stInc .., stAdd .., stAdd1 .., stSub1 .., stSub .., stDec .., stMova2 .., stAnd .., stOr ..,
    stXor .., stNot .., stMovb .., stShr .., stShl .., stHalt .., stNf ..,
    brzMova .., brzAdd .., brzSub1 .., brzDec .., brzAnd .., brzXor .., brzMovb .., brzShl ..,
    brnMova .., brnAdd .., brnSub1 .., brnDec .., brnAnd .., brnXor .., brnMovb .., brnShl ..,
    jmp ..]

/-- Two rows disagree on a bit that both fix. -/
def OpcodeRowsDisagree (r r' : OpcodeRow) : Prop := r.pattern &&& r'.mask ≠ r'.pattern &&& r.mask

theorem opcodeMap_pairwise_disagree : opcodeMap.Pairwise OpcodeRowsDisagree := by
  unfold OpcodeRowsDisagree
  decide

/-- No row reads an operand field. -/
theorem mask_of_mem_opcodeMap : ∀ r ∈ opcodeMap, 0xFE00 &&& r.mask = r.mask := by
  decide

theorem covers_iff (r : OpcodeRow) (w : Word) : r.covers w = true ↔ w &&& r.mask = r.pattern :=
  beq_iff_eq

/-- Which row covers a word depends on its class and function-select bits only. -/
theorem covers_congr {r : OpcodeRow} (hr : r ∈ opcodeMap) {w w' : Word}
    (h : w &&& 0xFE00 = w' &&& 0xFE00) : r.covers w = true ↔ r.covers w' = true := by
  rw [covers_iff, covers_iff, ← mask_of_mem_opcodeMap r hr, ← BitVec.and_assoc, h, BitVec.and_assoc]

/-- Rows that cover the same word are the same row. -/
theorem eq_of_covers {r r' : OpcodeRow} (hr : r ∈ opcodeMap) (hr' : r' ∈ opcodeMap) {w : Word}
    (h : r.covers w = true) (h' : r'.covers w = true) : r = r' := by
  rw [covers_iff] at h h'
  by_contra hne
  have hsymm : Std.Symm OpcodeRowsDisagree := ⟨fun _ _ hd => hd.symm⟩
  refine opcodeMap_pairwise_disagree.forall hr hr' hne ?_
  rw [← h, ← h', BitVec.and_assoc, BitVec.and_assoc, BitVec.and_comm r.mask]

/-- Where the encoder restores the bits the rows read, the row of the decoded instruction covers the word. -/
theorem exists_row_of_encode_decode {w : Word} (h : encode (decode w) &&& 0xFE00 = w &&& 0xFE00) :
    ∃ r ∈ opcodeMap, r.covers w = true ∧ r.mnemonic = (decode w).mnemonic := by
  obtain ⟨r, hr, hname, hcovers⟩ := matchesOpcodeMap (decode w)
  exact ⟨r, hr, (covers_congr hr h).mp hcovers, hname⟩

/-- Every word is covered by the row of its instruction. The four instructions that ignore `w[12:9]` have rows
that fix the class bits alone. -/
theorem exists_row_covering (w : Word) :
    ∃ r ∈ opcodeMap, r.covers w = true ∧ r.mnemonic = (decode w).mnemonic := by
  rw [← assemble_fields w]
  generalize fieldFs w = f, fieldDa w = d, fieldAa w = a, fieldBa w = b
  obtain h | h | h | h | h | h | h | h := class_cases (fieldClass w) <;> rw [h]
  · exact exists_row_of_encode_decode (by rw [decode_class0, encode_decodeRegister])
  · exact ⟨⟨"LD", 0xE000, 0x2000⟩, by decide, covers_mask3 _ _ _ _ _ _ _ rfl, by rw [decode_class1]; rfl⟩
  · exact exists_row_of_encode_decode
      (by rw [decode_class2, encode_decodeStore, assemble_and_mask7, assemble_and_mask7])
  · exact ⟨⟨"ST.NF", 0xE000, 0x6000⟩, by decide, covers_mask3 _ _ _ _ _ _ _ rfl, by rw [decode_class3]; rfl⟩
  · exact exists_row_of_encode_decode (by rw [decode_class4, encode_decodeImmediate])
  · exact ⟨⟨"LD.MB", 0xE000, 0xA000⟩, by decide, covers_mask3 _ _ _ _ _ _ _ rfl, by rw [decode_class5]; rfl⟩
  · exact exists_row_of_encode_decode (by rw [decode_class6, encode_decodeBranch])
  · exact ⟨⟨"JMP", 0xE000, 0xE000⟩, by decide, covers_mask3 _ _ _ _ _ _ _ rfl, by rw [decode_class7]; rfl⟩

end

end Sys2Proof.Machine
end

section
/-! SUPPORT. The decoder's outputs in plain arithmetic on the word (spec/30_encoding.md R71 to R74, R77), and the
pseudo-instruction BR (R85). -/

namespace Sys2Proof

section
variable (w : Word)

theorem getLsbD_iff_div (i : Nat) : w.getLsbD i = true ↔ w.toNat / 2 ^ i % 2 = 1 := by
  rw [BitVec.getLsbD, Nat.testBit_eq_decide_div_mod_eq, decide_eq_true_iff]

theorem toNat_extractLsb' (start len : Nat) :
    (w.extractLsb' start len).toNat = w.toNat / 2 ^ start % 2 ^ len := by
  rw [BitVec.extractLsb'_toNat, Nat.shiftRight_eq_div_pow]

theorem fieldDa_toNat : (fieldDa w).toNat = w.toNat / 64 % 8 := toNat_extractLsb' w 6 3

theorem fieldAa_toNat : (fieldAa w).toNat = w.toNat / 8 % 8 := toNat_extractLsb' w 3 3

theorem fieldBa_toNat : (fieldBa w).toNat = w.toNat % 8 := by
  rw [fieldBa, toNat_extractLsb', pow_zero, Nat.div_one]; rfl

theorem fieldFs_toNat : (fieldFs w).toNat = w.toNat / 512 % 16 := toNat_extractLsb' w 9 4

theorem bundle_mb_iff : (bundle w).mb = true ↔ w.toNat / 32768 = 1 := by
  have hbit : (bundle w).mb = true ↔ w.toNat / 32768 % 2 = 1 := getLsbD_iff_div w 15
  have hw : w.toNat < 65536 := w.isLt
  rw [hbit]
  omega

theorem bundle_bc_iff : (bundle w).bc = true ↔ w.toNat / 512 % 2 = 1 := getLsbD_iff_div w 9

theorem bundle_pl_iff : (bundle w).pl = true ↔ w.toNat / 16384 = 3 := by
  have hbits : (bundle w).pl = true ↔ w.toNat / 32768 % 2 = 1 ∧ w.toNat / 16384 % 2 = 1 :=
    (Bool.and_eq_true_iff ..).trans (and_congr (getLsbD_iff_div w 15) (getLsbD_iff_div w 14))
  have hw : w.toNat < 65536 := w.isLt
  rw [hbits]
  omega

open Machine in
/-- FS with its lowest bit forced to 0 under PL (R74). -/
theorem selectFs_toNat (pl : Bool) :
    (selectFs pl w).toNat = if pl then w.toNat / 1024 % 8 * 2 else w.toNat / 512 % 16 := by
  cases pl with
  | true => exact (evenCode_toNat _).trans (by rw [toNat_extractLsb', Nat.mul_comm]; rfl)
  | false => exact fieldFs_toNat w

/-- A code whose lowest bit is forced to 0 is not code 15 (R77). -/
theorem selectFs_true_ne_fifteen : selectFs true w ≠ 15 := fun h15 => by
  have hodd : (selectFs true w).toNat = 15 := congrArg BitVec.toNat h15
  rw [selectFs_toNat, if_pos rfl] at hodd
  omega

end

/-- RW, MW and PL as functions of bits 15 and 14: one of them is set (R77). -/
theorem enables_sum : ∀ b15 b14 : Bool, (!b14).toNat + (!b15 && b14).toNat + (b15 && b14).toNat = 1 := by
  decide

namespace Machine

/-- BR ANDs `x[0]` with the literal 0, so the flags it tests are those of 0, whatever the registers hold (R85). -/
theorem exec_br (h : Field3) (s : State) : exec (Instr.br h) s = .next (s.setFlags 0) := by
  have hand : fuAnd (s.reg 0) (zext16 0) = 0 := BitVec.and_zero
  show Host.Outcome.next (s.setFlags (fuAnd (s.reg 0) (zext16 0))) = .next (s.setFlags 0)
  rw [hand]

end Machine

end Sys2Proof
end

section
/-! SUPPORT. The statements of spec/30_encoding.md. -/

namespace Sys2Proof.Proofs

open Sys2Proof Sys2Proof.Machine

/-- Settles O1: each instruction's word decodes in its own family. -/
theorem decodeEncode : Obligations.DecodeEncode := decode_encode

/-- Settles O2, class by class: the encoder restores the fields the decoder kept. -/
theorem encodeDecodeKeepsReadBits : Obligations.EncodeDecodeKeepsReadBits := by
  intro w
  rw [← assemble_fields w]
  generalize fieldFs w = f, fieldDa w = d, fieldAa w = a, fieldBa w = b
  rw [fieldClass_assemble, fieldFs_assemble]
  obtain h | h | h | h | h | h | h | h := class_cases (fieldClass w) <;> rw [h]
  · rw [decode_class0, encode_decodeRegister]; rfl
  · rw [decode_class1]; exact (assemble_and_loadMask ..).symm
  · rw [decode_class2, encode_decodeStore]
    show _ = if f.toNat = 15 then _ else _
    rw [assemble_and_storeMask, apply_ite (assemble _ f · a b)]
  · rw [decode_class3]; exact (assemble_and_stNfMask ..).symm
  · rw [decode_class4, encode_decodeImmediate]; rfl
  · rw [decode_class5]; exact (assemble_and_loadMask ..).symm
  · rw [decode_class6, encode_decodeBranch]; rfl
  · rw [decode_class7]; exact (assemble_and_jmpMask ..).symm

/-- Settles O3: the decoded instruction's row covers the word, and no two rows share a word. -/
theorem opcodeMapPartitionsWords : Obligations.OpcodeMapPartitionsWords := by
  intro w
  obtain ⟨r, hr, hcovers, hname⟩ := exists_row_covering w
  exact ⟨r, hr, hcovers, hname, fun r' hr' hcovers' => eq_of_covers hr' hr hcovers' hcovers⟩

/-- Settles O6: FS is even under PL, and bits 15 and 14 pick one of the three enables. -/
theorem decoderFunctionSelect : Obligations.DecoderFunctionSelect := by
  intro w
  refine ⟨rfl, bundle_bc_iff w, selectFs_toNat w _, fun hpl => ?_, enables_sum _ _⟩
  show selectFs (bundle w).pl w ≠ 15
  rw [hpl]
  exact selectFs_true_ne_fifteen w

/-- Settles O4, by running the decoder on each word. -/
theorem decodeSampleWords : Obligations.DecodeSampleWords := by
  unfold Obligations.DecodeSampleWords
  decide

/-- Settles O5: each output is a field or a bit of the word. -/
theorem decoderFieldsAndEnables : Obligations.DecoderFieldsAndEnables := fun w =>
  ⟨fieldDa_toNat w, fieldAa_toNat w, fieldBa_toNat w, bundle_mb_iff w, bundle_md_iff w, bundle_rw_iff w,
    bundle_mw_iff w, bundle_pl_iff w⟩

/-- Settles O7: each expansion's word is its class and code bits beside its operand fields. -/
theorem pseudoInstructionWords : Obligations.PseudoInstructionWords := by
  refine ⟨rfl, rfl, fun s d a k h => ⟨?_, ?_, ?_, ?_, ?_, ?_, ?_, ⟨s.setFlags 0, exec_br h s, rfl⟩⟩⟩
  · exact (assemble_eq_or_operandBits ..).trans BitVec.zero_or
  all_goals exact assemble_eq_or_operandBits ..

end Sys2Proof.Proofs
end

section
/-! SUPPORT. One cycle as a function of the state, what its phases 4 to 7 leave of the controller's fields, and when
they end the run (spec/40_cycle.md R100 to R109, 46_system.md R263). -/

namespace Sys2Proof.Machine

/-! ## Placing a word (R102, R108) -/

/-- The controller does not read instruction memory or the run flag, so placing a word does not move the fetch. -/
@[simp] theorem nextPc_placeAtFetch (s : State) (w : Word) : nextPc (placeAtFetch s w) = nextPc s := rfl

/-- A placed word is the next one fetched. -/
theorem fetched_placeAtFetch (s : State) (w : Word) :
    fetched (placeAtFetch s w) =
      { s with pc := nextPc s, ir := w, resetFlag := false, running := true
               im := s.im.write (nextPc s) w } := by
  have hword : (placeAtFetch s w).readIM (nextPc s) = w := by
    rw [State.readIM, placeAtFetch_im, read_write, if_pos rfl]
  rw [fetched_eq, nextPc_placeAtFetch, hword]
  rfl

/-! ## What phases 4 to 7 leave alone -/

/-- Only the controller writes `pc`, only the fetch `ir`, and no execute phase sets the reset flag
(10_state.md R27, R29, R38). -/
@[simp] theorem executePhases_pc (p : Bundle) (s : State) : (executePhases p s).pc = s.pc := by
  rw [executePhases_eq]

@[simp] theorem executePhases_ir (p : Bundle) (s : State) : (executePhases p s).ir = s.ir := by
  rw [executePhases_eq]

@[simp] theorem executePhases_resetFlag (p : Bundle) (s : State) :
    (executePhases p s).resetFlag = s.resetFlag := by
  rw [executePhases_eq]

/-- Phase 6 clears the run flag where MD = 0 and the function unit halts, and no other phase writes it (R106). -/
theorem executePhases_running (p : Bundle) (s : State) :
    (executePhases p s).running =
      if p.md then s.running else s.running && !(cycleFunctionUnit p s).halt := by
  rw [executePhases_eq]

theorem cycleFunctionUnit_halt (p : Bundle) (s : State) :
    (cycleFunctionUnit p s).halt = (p.fs == 15 && s.config.fs15Variant == .halt) := rfl

/-! ## The cycle -/

@[simp] theorem cycle_pc (s : State) : (cycle s).pc = nextPc s := executePhases_pc _ (fetched s)

@[simp] theorem cycle_ir (s : State) : (cycle s).ir = s.readIM (nextPc s) := executePhases_ir _ (fetched s)

@[simp] theorem cycle_resetFlag (s : State) : (cycle s).resetFlag = false :=
  executePhases_resetFlag _ (fetched s)

@[simp] theorem cycle_im (s : State) : (cycle s).im = s.im := executePhases_im _ (fetched s)

@[simp] theorem cycle_config (s : State) : (cycle s).config = s.config := executePhases_config _ (fetched s)

/-- A cycle leaves in `ir` the word of instruction memory at the `pc` it leaves (R102, R111). -/
theorem cycle_ir_eq_readIM_pc (s : State) : (cycle s).ir = (cycle s).readIM (cycle s).pc := by
  rw [cycle_ir, cycle_pc, readIM_congr (cycle_im s)]

/-- A step of a running state is one cycle (R108, R109). -/
theorem step_eq_cycle {s : State} (h : s.running = true) : step s = .next (cycle s) := by
  rw [step_of_running h, cycle, fetched_ir]

/-! ## The end of the run (46_system.md R263) -/

/-- Code 15 runs with MD = 0 and FS = 15. Under PL the code is even, so these words lie outside PL, in the three
ranges of R263. -/
theorem runsCode15_iff (w : Word) : runsCode15 w = true ↔ Code15Word w := by
  have hw : w.toNat < 65536 := w.isLt
  have hfs : (bundle w).fs = 15 ↔ w.toNat / 16384 ≠ 3 ∧ w.toNat / 512 % 16 = 15 := by
    show selectFs (bundle w).pl w = 15 ↔ _
    by_cases hpl : (bundle w).pl = true
    · rw [hpl]
      exact iff_of_false (selectFs_true_ne_fifteen w) fun ⟨hne, _⟩ => hne ((bundle_pl_iff w).mp hpl)
    · rw [Ne, ← bundle_pl_iff, and_iff_right hpl, ← BitVec.toNat_inj, selectFs_toNat, if_neg hpl]
      rfl
  have hmd : (bundle w).md = false ↔ w.toNat / 8192 % 2 ≠ 1 := by
    rw [Ne, ← bundle_md_iff, Bool.not_eq_true]
  rw [runsCode15, Bool.and_eq_true, Bool.not_eq_true', beq_iff_eq, hmd, hfs, Code15Word]
  omega

/-- A cycle keeps the run flag unless its word runs code 15 under `halt` (R261, R263). -/
theorem cycle_running (s : State) :
    (cycle s).running =
      (s.running && !(runsCode15 (s.readIM (nextPc s)) && s.config.fs15Variant == .halt)) := by
  rw [cycle, executePhases_running, cycleFunctionUnit_halt, fetched_ir, fetched_eq, runsCode15]
  cases (bundle (s.readIM (nextPc s))).md <;> simp

/-- The run ends in a cycle exactly by code 15 under `halt`. -/
theorem cycle_halted_iff {s : State} (h : s.running = true) :
    (cycle s).running = false ↔ s.config.fs15Variant = .halt ∧ Code15Word (s.readIM (nextPc s)) := by
  simp [cycle_running, h, ← runsCode15_iff, and_comm]

end Sys2Proof.Machine
end

section
/-! SUPPORT. The two views of the successor address (spec/40_cycle.md R113, 45_control_transfer.md R220, R224): both
are one function of the bundle of the word in `ir`. -/

namespace Sys2Proof.Machine

/-- The next address by the bundle of the word just run at `q`, once the reset flag is spent: cases 2 to 5 of
45_control_transfer.md R220. -/
def bundleSuccessor (p : Bundle) (q : Word) (t : State) : Word :=
  if p.pl then
    if p.jb then t.reg p.aa else branchSuccessor (if p.bc then t.n else t.z) q p.da p.ba t
  else q + 1

/-- The controller's choice, with the reset flag spent. -/
theorem nextPc_eq_bundleSuccessor {s : State} (h : s.resetFlag = false) :
    nextPc s = bundleSuccessor (bundle s.ir) s.pc s := by
  unfold nextPc bundleSuccessor branchSuccessor
  cases hpl : (bundle s.ir).pl with
  | false => simp [h, hpl]
  | true =>
    cases hjb : (bundle s.ir).jb with
    | true => simp [h, hpl, hjb]
    | false => cases hbc : (bundle s.ir).bc <;> simp [h, hpl, hjb, hbc]

section
variable (f : Nat) (d a b : Field3) (q : Word) (t : State)

theorem successor_decodeRegister : successor (decodeRegister f d a b) q t = q + 1 := by
  unfold decodeRegister; split <;> rfl

theorem successor_decodeImmediate : successor (decodeImmediate f d a b) q t = q + 1 := by
  unfold decodeImmediate; split <;> rfl

theorem successor_decodeStore : successor (decodeStore f d a b) q t = q + 1 := by
  unfold decodeStore; split <;> rfl

theorem successor_decodeBranch (onN : Bool) :
    successor (if onN then decodeBrn f d a b else decodeBrz f d a b) q t =
      branchSuccessor (if onN then t.n else t.z) q d b t := by
  cases onN
  · show successor (decodeBrz f d a b) q t = branchSuccessor t.z q d b t
    unfold decodeBrz; split <;> rfl
  · show successor (decodeBrn f d a b) q t = branchSuccessor t.n q d b t
    unfold decodeBrn; split <;> rfl

end

/-- The successor of a decoded word, class by class: only the branches and JMP have PL = 1. -/
theorem successor_decode (w q : Word) (t : State) :
    successor (decode w) q t = bundleSuccessor (bundle w) q t := by
  rw [← assemble_fields w]
  generalize fieldFs w = f, fieldDa w = d, fieldAa w = a, fieldBa w = b
  obtain h | h | h | h | h | h | h | h := class_cases (fieldClass w) <;> rw [h, bundle_assemble]
  · rw [decode_class0, successor_decodeRegister]; rfl
  · rw [decode_class1]; rfl
  · rw [decode_class2, successor_decodeStore]; rfl
  · rw [decode_class3]; rfl
  · rw [decode_class4, successor_decodeImmediate]; rfl
  · rw [decode_class5]; rfl
  · rw [decode_class6, successor_decodeBranch]; rfl
  · rw [decode_class7]; rfl

/-- With the reset flag spent, the controller chooses the successor of the instruction in `ir`. -/
theorem nextPc_eq_successor {s : State} (h : s.resetFlag = false) :
    nextPc s = successor (decode s.ir) s.pc s := by
  rw [nextPc_eq_bundleSuccessor h, successor_decode]

end Sys2Proof.Machine
end

section
/-! SUPPORT. Runs under fuel as iterates of one total step (spec/40_cycle.md R110, R111, 70_reset_and_hazards.md
R344). -/

namespace Sys2Proof.Machine

/-- The state a step answers: the cycle's, or, once the run has ended, the same state. -/
def State.advance (s : State) : State := if s.running then cycle s else s

theorem advance_of_running {s : State} (h : s.running = true) : s.advance = cycle s := if_pos h

theorem advance_of_halted {s : State} (h : s.running = false) : s.advance = s := by
  simp [State.advance, h]

theorem step_eq_advance (s : State) : step s = .next s.advance := by
  cases h : s.running with
  | true => rw [step_eq_cycle h, advance_of_running h]
  | false => rw [step_of_halted h, advance_of_halted h]

/-- A core's run peels off its first step where that step answers a next state. -/
theorem run_succ_of_step {M : Host.Core} {s t : M.State} (h : M.step s = .next t) (k : Nat) :
    M.run (k + 1) s = M.run k t := by
  rw [Host.Core.run, h]

/-- `k` steps of the core, which never stop. -/
theorem core_run_eq (k : Nat) (s : State) :
    Host.Core.run Sys2Proof.core k s = .next (State.advance^[k] s) := by
  induction k generalizing s with
  | zero => rfl
  | succ k ih => exact (run_succ_of_step (M := Sys2Proof.core) (step_eq_advance s) k).trans (ih s.advance)

/-- A halted state stays through any number of steps. -/
theorem advance_iterate_of_halted {s : State} (h : s.running = false) (k : Nat) :
    State.advance^[k] s = s := Function.iterate_fixed (advance_of_halted h) k

/-- A run has ended within its fuel exactly where that many steps leave a halted state, which is its final state. -/
theorem runUntilHalt_eq (k : Nat) (s : State) :
    runUntilHalt k s =
      if (State.advance^[k] s).running then none else some (State.advance^[k] s) := by
  induction k generalizing s with
  | zero => rfl
  | succ k ih =>
    cases h : s.running with
    | true =>
      rw [runUntilHalt, if_pos h, step_eq_advance]
      exact ih s.advance
    | false =>
      rw [advance_iterate_of_halted h, runUntilHalt]
      simp [h]

theorem runUntilHalt_eq_some_iff {k : Nat} {s t : State} :
    runUntilHalt k s = some t ↔ State.advance^[k] s = t ∧ t.running = false := by
  rw [runUntilHalt_eq]
  constructor
  · intro h
    split at h
    · cases h
    · next hhalt => cases h; exact ⟨rfl, Bool.eq_false_of_not_eq_true hhalt⟩
  · rintro ⟨rfl, hhalt⟩
    simp [hhalt]

/-- A run that has ended was ended by the cycle of one of its running states: its last. -/
theorem exists_last_cycle {s : State} (hrun : s.running = true) (k : Nat)
    (hhalt : (State.advance^[k] s).running = false) :
    ∃ u, u.running = true ∧ State.advance^[k] s = cycle u := by
  induction k with
  | zero => exact absurd hrun (by simpa using hhalt)
  | succ k ih =>
    rw [Function.iterate_succ_apply'] at hhalt ⊢
    cases hu : (State.advance^[k] s).running with
    | true => exact ⟨_, hu, advance_of_running hu⟩
    | false =>
      rw [advance_of_halted hu]
      exact ih hu

end Sys2Proof.Machine
end

section
/-! SUPPORT. The statements of spec/40_cycle.md. -/

namespace Sys2Proof.Proofs

open Sys2Proof Sys2Proof.Machine

/-- Settles O26: each decoded instruction's meaning is what its word's bundle makes phases 4 to 7 do. -/
theorem stepIsCycle : Obligations.StepIsCycle := fun _ => step_eq_cycle

/-- Settles O27: a cycle spends the reset flag, and from then on both views are one function of the bundle. -/
theorem successorAgreesWithController : Obligations.SuccessorAgreesWithController := by
  intro s t hrun h
  rw [step_eq_cycle hrun] at h
  cases h
  exact ⟨cycle_pc s, cycle_ir s, nextPc_eq_successor (cycle_resetFlag s)⟩

/-- Settles O47: the final state is what the run's last cycle leaves, and every further step keeps it. -/
theorem runEnd : Obligations.RunEnd := by
  intro k s t hrun h
  obtain ⟨hsteps, hhalt⟩ := runUntilHalt_eq_some_iff.mp h
  obtain ⟨u, hu, hlast⟩ := exists_last_cycle hrun k (hsteps ▸ hhalt)
  have hcycle : t = cycle u := hsteps.symm.trans hlast
  obtain ⟨hvariant, hword⟩ := (cycle_halted_iff hu).mp (hcycle ▸ hhalt)
  refine ⟨hhalt, ?_, ?_, ?_, hsteps ▸ core_run_eq k s, fun j hj => ?_⟩
  · rw [hcycle, ← cycle_ir_eq_readIM_pc]
  · rwa [hcycle, cycle_ir]
  · rwa [hcycle, cycle_config]
  · refine runUntilHalt_eq_some_iff.mpr ⟨?_, hhalt⟩
    rw [← Nat.sub_add_cancel hj, Function.iterate_add_apply, hsteps, advance_iterate_of_halted hhalt]

/-- Settles O25: phases 1 and 2 fetch the word, which is the placed one after `placeAtFetch`. -/
theorem stepRunsDecodedInstruction : Obligations.StepRunsDecodedInstruction := by
  refine fun s => ⟨fun hrun => ?_, fun w => ?_⟩
  · rw [step, if_pos hrun, fetched_eq]
  · rw [step, if_pos (placeAtFetch_running s w), fetched_placeAtFetch]

end Sys2Proof.Proofs
end

section
/-! SUPPORT. The function unit in plain arithmetic (spec/41_alu.md): the unsigned value of each operation's result
(R121 to R135, R139), and the unit's flag, halt and dump outputs for every code (R120, R138). -/

namespace Sys2Proof.Machine

/-! ## The unsigned value of each operation's result -/

theorem fuMova_toNat (a : Word) : (fuMova a).toNat = a.toNat := rfl

theorem fuInc_toNat (a : Word) : (fuInc a).toNat = (a.toNat + 1) % 65536 := BitVec.toNat_add a 1

theorem fuAdd_toNat (a b : Word) : (fuAdd a b).toNat = (a.toNat + b.toNat) % 65536 := BitVec.toNat_add a b

theorem fuAdd1_toNat (a b : Word) : (fuAdd1 a b).toNat = (a.toNat + b.toNat + 1) % 65536 := by
  simp [fuAdd1, BitVec.toNat_add]

/-- NOT A is read as `65535 - A` (R139). -/
theorem fuNot_toNat (a : Word) : (fuNot a).toNat = 65535 - a.toNat := BitVec.toNat_not

theorem fuSub1_toNat (a b : Word) : (fuSub1 a b).toNat = (a.toNat + (65535 - b.toNat)) % 65536 := by
  rw [← fuNot_toNat]; exact BitVec.toNat_add a (fuNot b)

/-- SUB adds one to what SUB1 gives (R125, R126). -/
theorem fuSub_toNat (a b : Word) : (fuSub a b).toNat = (a.toNat + (65535 - b.toNat) + 1) % 65536 := by
  rw [← Nat.mod_add_mod, ← fuSub1_toNat]; exact BitVec.toNat_add (fuSub1 a b) 1

theorem fuDec_toNat (a : Word) : (fuDec a).toNat = (a.toNat + 65535) % 65536 := by
  rw [Nat.add_comm]; exact BitVec.toNat_sub a 1

theorem fuMova2_toNat (a : Word) : (fuMova2 a).toNat = a.toNat := rfl

theorem fuAnd_toNat (a b : Word) : (fuAnd a b).toNat = a.toNat &&& b.toNat := BitVec.toNat_and a b

theorem fuOr_toNat (a b : Word) : (fuOr a b).toNat = a.toNat ||| b.toNat := BitVec.toNat_or a b

theorem fuXor_toNat (a b : Word) : (fuXor a b).toNat = a.toNat ^^^ b.toNat := BitVec.toNat_xor a b

theorem fuMovb_toNat (b : Word) : (fuMovb b).toNat = b.toNat := rfl

/-- The shift is logical: bit 0 is lost and no sign bit comes in (R134). -/
theorem fuShr_toNat (b : Word) : (fuShr b).toNat = b.toNat / 2 := by
  rw [fuShr, BitVec.toNat_ushiftRight, Nat.shiftRight_eq_div_pow, Nat.pow_one]

/-- Bit 15 is lost (R135). -/
theorem fuShl_toNat (b : Word) : (fuShl b).toNat = 2 * b.toNat % 65536 := by
  rw [fuShl, BitVec.toNat_shiftLeft, Nat.shiftLeft_eq, Nat.pow_one, Nat.mul_comm]

/-! ## The unit's outputs -/

section
variable (variant : Fs15Variant) (fs : FsCode) (a b xd : Word)

/-- N and Z are those of the result, whatever the code (R138). -/
theorem functionUnit_flags :
    ((functionUnit variant fs a b xd).n = true ↔ 32768 ≤ (functionUnit variant fs a b xd).f.toNat) ∧
      ((functionUnit variant fs a b xd).z = true ↔ (functionUnit variant fs a b xd).f.toNat = 0) :=
  ⟨negativeFlag_iff _, zeroFlag_iff _⟩

/-- Halt is raised by code 15 under `halt` only (R120). -/
theorem functionUnit_halt_iff :
    (functionUnit variant fs a b xd).halt = true ↔ fs = 15 ∧ variant = .halt := by simp [functionUnit]

/-- The dump is requested by code 15 under `dump` only (R136). -/
theorem functionUnit_dump_iff :
    (functionUnit variant fs a b xd).dump = true ↔ fs = 15 ∧ variant = .dump := by simp [functionUnit]

end

/-- A code other than 15 has the outputs of its result's unsigned value, and raises neither signal. -/
theorem unitOutput_of_ne_code15 {variant : Fs15Variant} {fs : FsCode} {a b xd : Word} {f : Nat}
    (hfs : fs ≠ 15) (hf : (fuResult variant fs a b xd).toNat = f) :
    UnitOutput (functionUnit variant fs a b xd) f := by
  subst hf
  obtain ⟨hn, hz⟩ := functionUnit_flags variant fs a b xd
  refine ⟨rfl, hn, hz, Bool.eq_false_iff.mpr fun h => ?_, Bool.eq_false_iff.mpr fun h => ?_⟩
  · exact hfs ((functionUnit_halt_iff variant fs a b xd).mp h).1
  · exact hfs ((functionUnit_dump_iff variant fs a b xd).mp h).1

end Sys2Proof.Machine
end

section
/-! SUPPORT. The statements of spec/41_alu.md. -/

namespace Sys2Proof.Proofs

open Sys2Proof Sys2Proof.Machine

/-- Settles O9: each code selects its operation, whose unsigned value is the rule's. -/
theorem functionUnitArithmetic : Obligations.FunctionUnitArithmetic := fun _ a b _ =>
  ⟨unitOutput_of_ne_code15 (by decide) (fuMova_toNat a),
    unitOutput_of_ne_code15 (by decide) (fuInc_toNat a),
    unitOutput_of_ne_code15 (by decide) (fuAdd_toNat a b),
    unitOutput_of_ne_code15 (by decide) (fuAdd1_toNat a b),
    unitOutput_of_ne_code15 (by decide) (fuSub1_toNat a b),
    unitOutput_of_ne_code15 (by decide) (fuSub_toNat a b),
    unitOutput_of_ne_code15 (by decide) (fuDec_toNat a),
    unitOutput_of_ne_code15 (by decide) (fuMova2_toNat a)⟩

/-- Settles O10: each code selects its operation, whose unsigned value is the rule's. -/
theorem functionUnitLogicAndShift : Obligations.FunctionUnitLogicAndShift := fun _ a b _ =>
  ⟨unitOutput_of_ne_code15 (by decide) (fuAnd_toNat a b),
    unitOutput_of_ne_code15 (by decide) (fuOr_toNat a b),
    unitOutput_of_ne_code15 (by decide) (fuXor_toNat a b),
    unitOutput_of_ne_code15 (by decide) (fuNot_toNat a),
    unitOutput_of_ne_code15 (by decide) (fuMovb_toNat b),
    unitOutput_of_ne_code15 (by decide) (fuShr_toNat b),
    unitOutput_of_ne_code15 (by decide) (fuShl_toNat b)⟩

/-- Settles O11: the variant selects the result and the signal, and the flags are the result's as for every code. -/
theorem functionUnitCode15 : Obligations.FunctionUnitCode15 := by
  intro a b xd
  constructor
  case left =>
    obtain ⟨hn, hz⟩ := functionUnit_flags .halt 15 a b xd
    exact ⟨rfl, hn, hz, rfl, rfl⟩
  case right =>
    obtain ⟨hn, hz⟩ := functionUnit_flags .dump 15 a b xd
    exact ⟨rfl, hn, hz, rfl, rfl⟩

end Sys2Proof.Proofs
end

section
/-! SUPPORT. The register forms and the three instructions that run code 15, in the frames of Safety.lean
(spec/42_alu_register.md, 43_alu_immediate.md R185, 44_load_store.md R210, 46_system.md R261, R262). -/

namespace Sys2Proof.Machine

/-! ## Decoding the assembler's form of a word (30_encoding.md R84) -/

section
variable (f : FsCode) (d a b : Field3)

theorem decode_registerWord :
    decode (assemble 0b000 f 0 0 0 ||| operandBits d a b) = decodeRegister f.toNat d a b := by
  rw [← assemble_eq_or_operandBits, decode_class0]

theorem decode_storeWord :
    decode (assemble 0b010 f 0 0 0 ||| operandBits d a b) = decodeStore f.toNat d a b := by
  rw [← assemble_eq_or_operandBits, decode_class2]

theorem decode_immediateWord :
    decode (assemble 0b100 f 0 0 0 ||| operandBits d a b) = decodeImmediate f.toNat d a b := by
  rw [← assemble_eq_or_operandBits, decode_class4]

end

/-! ## Codes below 15 -/

/-- A register form with a code other than 15: its word, and its effect for the unsigned value of its result
(42_alu_register.md R150 to R164). The operands are read before the destination is written, so a destination that is
also a source is no special case. -/
theorem registerForm_of_ne_code15 {s : State} {f : FsCode} {d a b : Field3} {v : Nat} (hf : f ≠ 15)
    (hv : (fuResult s.config.fs15Variant f (s.reg a) (s.reg b) (s.reg d)).toNat = v) :
    decode (assemble 0b000 f 0 0 0 ||| operandBits d a b) = decodeRegister f.toNat d a b ∧
      ∃ t, exec (decodeRegister f.toNat d a b) s = .next t ∧ AluEffect s t d v s.running := by
  subst hv
  refine ⟨decode_registerWord f d a b, _, exec_decodeRegister s f d a b, ?_⟩
  rw [afterCode_of_ne s hf]
  exact writeResult_effect s d _

/-! ## Code 15 -/

theorem code15_of_halt {s : State} (hv : s.config.fs15Variant = .halt) : s.code15 = s.stop := by
  rw [code15_eq, if_pos hv]

theorem code15_of_dump {s : State} (hv : s.config.fs15Variant = .dump) : s.code15 = s := by
  rw [code15_eq, hv]; rfl

section
variable {s : State}

/-- Under `halt`, HALT and HALTI write `x[a]` and end the run (46_system.md R261). -/
theorem writeCode15_effect_of_halt (hv : s.config.fs15Variant = .halt) (d a : Field3) :
    AluEffect s (s.code15.writeResult d (fuCode15 s.config.fs15Variant (s.reg a) (s.reg d)))
      d (s.reg a).toNat false := by
  rw [code15_of_halt hv, hv]
  exact writeResult_effect s.stop d (s.reg a)

/-- Under `dump`, HALT and HALTI write back the value `x[d]` holds, and the run goes on (46_system.md R262). -/
theorem writeCode15_effect_of_dump (hv : s.config.fs15Variant = .dump) (d a : Field3) :
    AluEffect s (s.code15.writeResult d (fuCode15 s.config.fs15Variant (s.reg a) (s.reg d)))
      d (s.reg d).toNat s.running := by
  rw [code15_of_dump hv, hv]
  exact writeResult_effect s d (s.reg d)

@[simp] theorem storeAndFlag_config (a k : Field3) (f : Word) : (s.storeAndFlag a k f).config = s.config := rfl

/-- Ending the run after a store changes the run flag only. -/
theorem StoreEffect.stop {t : State} {ra k : Field3} {f : Nat} {run : Bool} (h : StoreEffect s t ra k f run) :
    StoreEffect s t.stop ra k f false := by
  obtain ⟨hstored, hflags, -, hregs, hcontrol⟩ := h
  exact ⟨hstored, hflags, rfl, hregs, hcontrol⟩

/-- Under `halt`, ST.HALT stores its literal, takes its flags from `x[a]` and ends the run (44_load_store.md R210). -/
theorem storeCode15_effect_of_halt (hv : s.config.fs15Variant = .halt) (d a k : Field3) :
    StoreEffect s (s.storeAndFlag a k (fuCode15 s.config.fs15Variant (s.reg a) (s.reg d))).code15
      a k (s.reg a).toNat false := by
  rw [hv, code15_of_halt (by rwa [storeAndFlag_config])]
  exact (storeAndFlag_effect s a k (s.reg a)).stop

/-- Under `dump`, ST.HALT stores its literal, takes its flags from `x[d]`, and the run goes on (44_load_store.md
R210). -/
theorem storeCode15_effect_of_dump (hv : s.config.fs15Variant = .dump) (d a k : Field3) :
    StoreEffect s (s.storeAndFlag a k (fuCode15 s.config.fs15Variant (s.reg a) (s.reg d))).code15
      a k (s.reg d).toNat s.running := by
  rw [hv, code15_of_dump (by rwa [storeAndFlag_config])]
  exact storeAndFlag_effect s a k (s.reg d)

end

end Sys2Proof.Machine
end

section
/-! SUPPORT. The statements of spec/42_alu_register.md. -/

namespace Sys2Proof.Proofs

open Sys2Proof Sys2Proof.Machine

/-- Settles O12: each form runs its code, whose unsigned value is the rule's. -/
theorem registerArithmetic : Obligations.RegisterArithmetic := fun _ _ _ _ =>
  ⟨registerForm_of_ne_code15 (f := 0) (by decide) (fuMova_toNat _),
    registerForm_of_ne_code15 (f := 1) (by decide) (fuInc_toNat _),
    registerForm_of_ne_code15 (f := 2) (by decide) (fuAdd_toNat _ _),
    registerForm_of_ne_code15 (f := 3) (by decide) (fuAdd1_toNat _ _),
    registerForm_of_ne_code15 (f := 4) (by decide) (fuSub1_toNat _ _),
    registerForm_of_ne_code15 (f := 5) (by decide) (fuSub_toNat _ _),
    registerForm_of_ne_code15 (f := 6) (by decide) (fuDec_toNat _),
    registerForm_of_ne_code15 (f := 7) (by decide) (fuMova2_toNat _)⟩

/-- Settles O13: each form runs its code, whose unsigned value is the rule's. -/
theorem registerLogicAndShift : Obligations.RegisterLogicAndShift := fun _ _ _ _ =>
  ⟨registerForm_of_ne_code15 (f := 8) (by decide) (fuAnd_toNat _ _),
    registerForm_of_ne_code15 (f := 9) (by decide) (fuOr_toNat _ _),
    registerForm_of_ne_code15 (f := 10) (by decide) (fuXor_toNat _ _),
    registerForm_of_ne_code15 (f := 11) (by decide) (fuNot_toNat _),
    registerForm_of_ne_code15 (f := 12) (by decide) (fuMovb_toNat _),
    registerForm_of_ne_code15 (f := 13) (by decide) (fuShr_toNat _),
    registerForm_of_ne_code15 (f := 14) (by decide) (fuShl_toNat _)⟩

/-- Settles O16: HALT and HALTI share one meaning, and ST.HALT's end of the run comes after its store. -/
theorem haltForms : Obligations.HaltForms := by
  intro s d a b
  refine ⟨⟨decode_registerWord 15 d a b, _, rfl, ?halt⟩, ⟨decode_immediateWord 15 d a b, _, rfl, ?halti⟩,
    ⟨decode_storeWord 15 d a b, _, rfl, ?stHalt⟩⟩
  case halt | halti =>
    exact ⟨fun hv => writeCode15_effect_of_halt hv d a, fun hv => writeCode15_effect_of_dump hv d a⟩
  case stHalt =>
    exact ⟨fun hv => storeCode15_effect_of_halt hv d a b, fun hv => storeCode15_effect_of_dump hv d a b⟩

end Sys2Proof.Proofs
end

section
/-! SUPPORT. The immediate forms with a code below 15 (spec/43_alu_immediate.md R170 to R184). -/

namespace Sys2Proof.Machine

/-- An immediate form with a code other than 15: its word, and its effect for the unsigned value of its result, with
the zero-extended BA field as operand B (30_encoding.md R78, 92_eei_decisions.md D12). -/
theorem immediateForm_of_ne_code15 {s : State} {f : FsCode} {d a k : Field3} {v : Nat} (hf : f ≠ 15)
    (hv : (fuResult s.config.fs15Variant f (s.reg a) (zext16 k) (s.reg d)).toNat = v) :
    decode (assemble 0b100 f 0 0 0 ||| operandBits d a k) = decodeImmediate f.toNat d a k ∧
      ∃ t, exec (decodeImmediate f.toNat d a k) s = .next t ∧ AluEffect s t d v s.running := by
  subst hv
  refine ⟨decode_immediateWord f d a k, _, exec_decodeImmediate s f d a k, ?_⟩
  rw [afterCode_of_ne s hf]
  exact writeResult_effect s d _

end Sys2Proof.Machine
end

section
/-! SUPPORT. The statements of spec/43_alu_immediate.md. -/

namespace Sys2Proof.Proofs

open Sys2Proof Sys2Proof.Machine

/-- Settles O14: each form runs its code on the zero-extended field, whose unsigned value is the field's. -/
theorem immediateArithmetic : Obligations.ImmediateArithmetic := by
  intro s d a k A B
  have hB : B = (zext16 k).toNat := (zext16_toNat k).symm
  rw [hB]
  exact ⟨immediateForm_of_ne_code15 (f := 0) (by decide) (fuMova_toNat _),
    immediateForm_of_ne_code15 (f := 1) (by decide) (fuInc_toNat _),
    immediateForm_of_ne_code15 (f := 2) (by decide) (fuAdd_toNat _ _),
    immediateForm_of_ne_code15 (f := 3) (by decide) (fuAdd1_toNat _ _),
    immediateForm_of_ne_code15 (f := 4) (by decide) (fuSub1_toNat _ _),
    immediateForm_of_ne_code15 (f := 5) (by decide) (fuSub_toNat _ _),
    immediateForm_of_ne_code15 (f := 6) (by decide) (fuDec_toNat _),
    immediateForm_of_ne_code15 (f := 7) (by decide) (fuMova2_toNat _)⟩

/-- Settles O15: each form runs its code on the zero-extended field, whose unsigned value is the field's. -/
theorem immediateLogicAndShift : Obligations.ImmediateLogicAndShift := by
  intro s d a k A B
  have hB : B = (zext16 k).toNat := (zext16_toNat k).symm
  rw [hB]
  exact ⟨immediateForm_of_ne_code15 (f := 8) (by decide) (fuAnd_toNat _ _),
    immediateForm_of_ne_code15 (f := 9) (by decide) (fuOr_toNat _ _),
    immediateForm_of_ne_code15 (f := 10) (by decide) (fuXor_toNat _ _),
    immediateForm_of_ne_code15 (f := 11) (by decide) (fuNot_toNat _),
    immediateForm_of_ne_code15 (f := 12) (by decide) (fuMovb_toNat _),
    immediateForm_of_ne_code15 (f := 13) (by decide) (fuShr_toNat _),
    immediateForm_of_ne_code15 (f := 14) (by decide) (fuShl_toNat _)⟩

end Sys2Proof.Proofs
end

section
/-! SUPPORT. Loads, stores and the next fetch after them (spec/44_load_store.md R193 to R211), in the frames of
Safety.lean: the words with ignored function-select bits, the address of the next fetch, and one effect per form. -/

namespace Sys2Proof.Machine

/-! ## Words whose function-select bits are ignored (30_encoding.md R81) -/

section
variable (cls : BitVec 3) (f : FsCode) (d a b : Field3)

/-- A word with ignored function-select bits: the class bits, beside those bits and the operand fields. -/
theorem assemble_eq_or_operandBitsWith :
    assemble cls f d a b = assemble cls 0 0 0 0 ||| operandBitsWith f d a b := by
  have hcode : assemble cls f 0 0 0 = assemble cls 0 0 0 0 ||| f.setWidth 16 <<< 9 := by
    ext i hi
    simp only [← BitVec.getLsbD_eq_getElem, BitVec.getLsbD_or, BitVec.getLsbD_shiftLeft,
      BitVec.getLsbD_setWidth, getLsbD_assemble]
    interval_cases i <;> simp
  rw [assemble_eq_or_operandBits, hcode, BitVec.or_assoc, operandBitsWith]

theorem decode_ldWord : decode (assemble 0b001 0 0 0 0 ||| operandBitsWith f d a b) = .ld d a := by
  rw [← assemble_eq_or_operandBitsWith, decode_class1]

theorem decode_ldMbWord : decode (assemble 0b101 0 0 0 0 ||| operandBitsWith f d a b) = .ldMb d a := by
  rw [← assemble_eq_or_operandBitsWith, decode_class5]

theorem decode_stNfWord : decode (assemble 0b011 0 0 0 0 ||| operandBitsWith f d a b) = .stNf a b := by
  rw [← assemble_eq_or_operandBitsWith, decode_class3]

end

/-! ## The next fetch (45_control_transfer.md R220) -/

/-- An instruction's cycle leaves its word in `ir` at its address, so the next fetch is at its own successor. -/
theorem nextPc_of_sameControl {s t : State} {w : Word} {i : Instr} (hcontrol : SameControl s t)
    (hdecode : decode w = i) (hir : s.ir = w) (hreset : s.resetFlag = false) :
    nextPc t = successor i s.pc t := by
  obtain ⟨hpc', hir', -, -, hreset', -⟩ := hcontrol
  rw [nextPc_eq_successor (hreset'.trans hreset), hpc', hir', hir, hdecode]

/-! ## One effect per form -/

section
variable {s : State}

/-- A load, LD or LD.MB: operand B is not part of its meaning, so the two differ in their word only (R193, R194). -/
theorem loadForm {w : Word} {i : Instr} {d a : Field3} (hdecode : decode w = i)
    (hexec : exec i s = .next (s.loadWord d a)) (hnext : ∀ q t, successor i q t = q + 1) :
    decode w = i ∧ ∃ t, exec i s = .next t ∧ LoadEffect s t d a ∧
      (s.ir = w → s.resetFlag = false → nextPc t = s.pc + 1) := by
  have heffect := loadWord_effect s d a
  refine ⟨hdecode, _, hexec, heffect, fun hir hreset => ?_⟩
  obtain ⟨-, -, -, -, -, -, hcontrol⟩ := heffect
  rw [nextPc_of_sameControl hcontrol hdecode hir hreset, hnext]

/-- A store with a code other than 15: its word for every DA, and its effect for the unsigned value of its discarded
result. BA is both the literal stored and the register the code reads (R192, R195 to R209). -/
theorem storeForm_of_ne_code15 {f : FsCode} {d a k : Field3} {v : Nat} (hf : f ≠ 15)
    (hv : (fuResult s.config.fs15Variant f (s.reg a) (s.reg k) (s.reg d)).toNat = v) :
    decode (assemble 0b010 f 0 0 0 ||| operandBits d a k) = decodeStore f.toNat d a k ∧
      ∃ t, exec (decodeStore f.toNat d a k) s = .next t ∧ StoreEffect s t a k v s.running := by
  subst hv
  refine ⟨decode_storeWord f d a k, _, exec_decodeStore s f d a k, ?_⟩
  rw [afterCode_of_ne _ hf]
  exact storeAndFlag_effect s a k _

/-- ST.NF is the bare memory write: the word it reads back is discarded (R211, 20_memory.md R57, R61). -/
theorem exec_stNf (a k : Field3) :
    exec (.stNf a k) s = .next (s.writeDM (effectiveAddress s a) (storeData k)) := rfl

/-- What a data-memory write leaves unchanged beside the memories (20_memory.md R52). -/
theorem writeDM_frame (a w : Word) :
    SameFlags s (s.writeDM a w) ∧ (s.writeDM a w).running = s.running ∧ SameRegisters s (s.writeDM a w) ∧
      SameControl s (s.writeDM a w) :=
  ⟨⟨rfl, rfl⟩, rfl, reg_writeDM s a w, rfl, rfl, rfl, rfl, rfl, rfl⟩

end

end Sys2Proof.Machine
end

section
/-! SUPPORT. The statements of spec/44_load_store.md. -/

namespace Sys2Proof.Proofs

open Sys2Proof Sys2Proof.Machine

/-- Settles O17: both words decode for every ignored bit, and both instructions have the one meaning of a load. -/
theorem loads : Obligations.Loads := fun _ f d a x =>
  ⟨loadForm (decode_ldWord f d a x) rfl fun _ _ => rfl,
    loadForm (decode_ldMbWord f d a x) rfl fun _ _ => rfl⟩

/-- Settles O18: each store runs its code, whose unsigned value is the rule's. -/
theorem storesArithmeticFlags : Obligations.StoresArithmeticFlags := fun _ _ _ _ =>
  ⟨storeForm_of_ne_code15 (f := 0) (by decide) (fuMova_toNat _),
    storeForm_of_ne_code15 (f := 1) (by decide) (fuInc_toNat _),
    storeForm_of_ne_code15 (f := 2) (by decide) (fuAdd_toNat _ _),
    storeForm_of_ne_code15 (f := 3) (by decide) (fuAdd1_toNat _ _),
    storeForm_of_ne_code15 (f := 4) (by decide) (fuSub1_toNat _ _),
    storeForm_of_ne_code15 (f := 5) (by decide) (fuSub_toNat _ _),
    storeForm_of_ne_code15 (f := 6) (by decide) (fuDec_toNat _),
    storeForm_of_ne_code15 (f := 7) (by decide) (fuMova2_toNat _)⟩

/-- Settles O19: each store runs its code, whose unsigned value is the rule's. -/
theorem storesLogicAndShiftFlags : Obligations.StoresLogicAndShiftFlags := fun _ _ _ _ =>
  ⟨storeForm_of_ne_code15 (f := 8) (by decide) (fuAnd_toNat _ _),
    storeForm_of_ne_code15 (f := 9) (by decide) (fuOr_toNat _ _),
    storeForm_of_ne_code15 (f := 10) (by decide) (fuXor_toNat _ _),
    storeForm_of_ne_code15 (f := 11) (by decide) (fuNot_toNat _),
    storeForm_of_ne_code15 (f := 12) (by decide) (fuMovb_toNat _),
    storeForm_of_ne_code15 (f := 13) (by decide) (fuShr_toNat _),
    storeForm_of_ne_code15 (f := 14) (by decide) (fuShl_toNat _)⟩

/-- Settles O20: the memory write stores the literal and touches nothing the controller reads. -/
theorem storeKeepingFlags : Obligations.StoreKeepingFlags := by
  intro s f d a k
  have hdecode := decode_stNfWord f d a k
  obtain ⟨hflags, hrun, hregs, hcontrol⟩ := writeDM_frame (s := s) (effectiveAddress s a) (storeData k)
  exact ⟨hdecode, _, exec_stNf a k, writeDM_stores s a k, hflags, hrun, hregs, hcontrol,
    nextPc_of_sameControl hcontrol hdecode⟩

end Sys2Proof.Proofs
end

section
/-! SUPPORT. The branch displacement (spec/45_control_transfer.md R221 to R223) as the table's integer, its range, and
the assembler's fields of it (spec/30_encoding.md R84). -/

namespace Sys2Proof.Machine

/-- `ext(DA)` under `top_bit` (R222). -/
theorem signExtends_topBit_iff : ∀ h : Field3, signExtends .topBit h = true ↔ 4 ≤ h.toNat := by decide

/-- `ext(DA)` under `gt4` (R222). -/
theorem signExtends_gt4_iff (h : Field3) : signExtends .gt4 h = true ↔ 5 ≤ h.toNat := decide_eq_true_iff

/-- The displacement is sign-extended only where DA's top bit is set, under both rules. -/
theorem four_le_of_signExtends {rule : BranchSignRule} {h : Field3} (hext : signExtends rule h = true) :
    4 ≤ h.toNat := by
  cases rule with
  | topBit => exact (signExtends_topBit_iff h).mp hext
  | gt4 => exact Nat.le_of_succ_le ((signExtends_gt4_iff h).mp hext)

/-- The table of R222 in the terms of the offset rule: 64 is subtracted exactly where `ext(DA)` holds. -/
theorem displacement_eq (rule : BranchSignRule) (h l : Field3) :
    displacement rule h l = 8 * (h.toNat : Int) + l.toNat - if signExtends rule h then 64 else 0 := by
  cases rule with
  | topBit => simp only [displacement, signExtends_topBit_iff]
  | gt4 => simp only [displacement, signExtends_gt4_iff]

/-- DA ++ BA in the 8-bit container, before any extension. -/
theorem toInt_offsetFields : ∀ h l : Field3,
    ((h ++ l).setWidth 8).toInt = 8 * (h.toNat : Int) + l.toNat := by decide

/-- Forcing the upper three bits to 1 subtracts 64: bit 5, DA's top bit, was set already. -/
theorem toInt_offsetFields_extended : ∀ h l : Field3, 4 ≤ h.toNat →
    ((h ++ l).setWidth 8 ||| 0xE0#8).toInt = 8 * (h.toNat : Int) + l.toNat - 64 := by decide

theorem branchOffset_toInt (rule : BranchSignRule) (h l : Field3) :
    (branchOffset rule h l).toInt = displacement rule h l := by
  rw [displacement_eq, branchOffset]
  split
  · next hext => exact toInt_offsetFields_extended h l (four_le_of_signExtends hext)
  · rw [toInt_offsetFields, Int.sub_zero]

/-- A taken branch goes to its own address plus the table's displacement, modulo 2^16 (R223, R225). -/
theorem branchTarget_eq (rule : BranchSignRule) (q : Word) (h l : Field3) :
    branchTarget rule q h l = q + BitVec.ofInt 16 (displacement rule h l) := by
  rw [← branchOffset_toInt]; rfl

/-! ## The range of the displacement (30_encoding.md R84) -/

theorem displacementWellFormed_topBit_iff (off : Int) :
    displacementWellFormed .topBit off = true ↔ -32 ≤ off ∧ off ≤ 31 := by
  simp [displacementWellFormed]

theorem displacementWellFormed_gt4_iff (off : Int) :
    displacementWellFormed .gt4 off = true ↔ -24 ≤ off ∧ off ≤ 39 := by
  simp [displacementWellFormed]

theorem displacement_wellFormed (rule : BranchSignRule) (h l : Field3) :
    displacementWellFormed rule (displacement rule h l) = true := by
  have hh : h.toNat < 8 := h.isLt
  have hl : l.toNat < 8 := l.isLt
  cases rule with
  | topBit =>
    rw [displacementWellFormed_topBit_iff, displacement]
    split <;> omega
  | gt4 =>
    rw [displacementWellFormed_gt4_iff, displacement]
    split <;> omega

/-! ## The assembler's fields -/

theorem displacementHi_toNat (off : Int) : ((displacementHi off).toNat : Int) = off / 8 % 8 := by
  rw [displacementHi, BitVec.toNat_ofInt]; omega

theorem displacementLo_toNat (off : Int) : ((displacementLo off).toNat : Int) = off % 8 := by
  rw [displacementLo, BitVec.toNat_ofInt]; omega

/-- The fields of a displacement in range have that displacement: 64 is what DA loses of a negative one. -/
theorem displacement_fields {rule : BranchSignRule} {off : Int} (hoff : displacementWellFormed rule off = true) :
    displacement rule (displacementHi off) (displacementLo off) = off := by
  have hhi := displacementHi_toNat off
  have hlo := displacementLo_toNat off
  cases rule with
  | topBit =>
    rw [displacementWellFormed_topBit_iff] at hoff
    rw [displacement]
    split <;> omega
  | gt4 =>
    rw [displacementWellFormed_gt4_iff] at hoff
    rw [displacement]
    split <;> omega

end Sys2Proof.Machine
end

section
/-! SUPPORT. The controller's view of a word in plain arithmetic (spec/45_control_transfer.md R220), and JMP and the
conditional branches as one form each (R228 to R244). -/

namespace Sys2Proof

section
variable (w : Word)

/-! ## The fields and classes the controller reads -/

theorem fieldDa_eq_ofNat : fieldDa w = BitVec.ofNat 3 (w.toNat / 64) :=
  BitVec.eq_of_toNat_eq (by rw [fieldDa_toNat, BitVec.toNat_ofNat])

theorem fieldAa_eq_ofNat : fieldAa w = BitVec.ofNat 3 (w.toNat / 8) :=
  BitVec.eq_of_toNat_eq (by rw [fieldAa_toNat, BitVec.toNat_ofNat])

theorem fieldBa_eq_ofNat : fieldBa w = BitVec.ofNat 3 w.toNat :=
  BitVec.eq_of_toNat_eq (by rw [fieldBa_toNat, BitVec.toNat_ofNat])

/-- JB is the class bit MD (R74). -/
theorem bundle_jb_iff : (bundle w).jb = true ↔ w.toNat / 8192 % 2 = 1 := bundle_md_iff w

/-- The words of JMP: class 111. -/
theorem bundle_jump_iff : ((bundle w).pl && (bundle w).jb) = true ↔ w.toNat / 8192 = 7 := by
  have hw : w.toNat < 65536 := w.isLt
  rw [Bool.and_eq_true_iff, bundle_pl_iff, bundle_jb_iff]
  omega

/-- Beside JMP, the words with PL = 1 are the conditional branches: class 110. -/
theorem bundle_branch_iff (hjump : ¬ w.toNat / 8192 = 7) :
    (bundle w).pl = true ↔ w.toNat / 8192 = 6 := by
  have hw : w.toNat < 65536 := w.isLt
  rw [bundle_pl_iff]
  omega

end

namespace Machine

/-! ## The words of JMP and of the conditional branches -/

section
variable (f : FsCode) (d a b : Field3)

theorem decode_jmpWord : decode (assemble 0b111 0 0 0 0 ||| operandBitsWith f d a b) = .jmp a := by
  rw [← assemble_eq_or_operandBitsWith, decode_class7]

/-- The conditional branch with function-select bits `f`: BC is the lowest of them, `w[12:10]` the others (R74). -/
def branchInstr : Instr :=
  if f[0] then decodeBrn (f.extractLsb' 1 3).toNat d a b else decodeBrz (f.extractLsb' 1 3).toNat d a b

theorem decode_branchWord : decode (assemble 0b110 f 0 0 0 ||| operandBits d a b) = branchInstr f d a b := by
  rw [← assemble_eq_or_operandBits, decode_class6, branchInstr]

/-- The discarded result of a branch's flag operation, whose code is `w[12:10]` with a 0 below it (R74), on `x[a]`
and the raw BA field. -/
def branchResult (s : State) : Word :=
  fuResult s.config.fs15Variant (f.extractLsb' 1 3 ++ 0#1) (s.reg a) (zext16 b) (s.reg d)

theorem exec_branchInstr (s : State) :
    exec (branchInstr f d a b) s = .next (s.setFlags (branchResult f d a b s)) := by
  rw [branchInstr, exec_decodeBranch, afterCode_evenCode, branchResult]

theorem successor_branchInstr (q : Word) (t : State) :
    successor (branchInstr f d a b) q t =
      if (if f[0] then t.n else t.z) then q + BitVec.ofInt 16 (displacement t.config.branchSignRule d b)
      else q + 1 := by
  rw [branchInstr, successor_decodeBranch, branchSuccessor, branchTarget_eq]

end

/-! ## One effect for all conditional branches -/

/-- What the rules R229 to R244 say of a branch: its word, its completion, its own cycle and the next fetch. -/
def BranchForm (s : State) (w : Word) (i : Instr) (h k : Field3) (v : Nat) (taken : Prop) : Prop :=
  decode w = i ∧ ∃ t, exec i s = .next t ∧ BranchEffect s t w h k v taken

section
variable {s : State} {f : FsCode} {h a k : Field3} {v : Nat} {taken : Prop}

/-- A branch is taken by the flag it tests, as its own cycle writes it: the next cycle's controller reads the flags this
cycle leaves (R220, R245). -/
theorem branchForm_of_flag (hv : (branchResult f h a k s).toNat = v)
    (htaken : (if f[0] then negativeFlag (branchResult f h a k s) else zeroFlag (branchResult f h a k s)) = true ↔
      taken) :
    BranchForm s (assemble 0b110 f 0 0 0 ||| operandBits h a k) (branchInstr f h a k) h k v taken := by
  subst hv
  have hdecode := decode_branchWord f h a k
  have heffect := setFlags_effect s (branchResult f h a k s)
  refine ⟨hdecode, _, exec_branchInstr f h a k s, heffect, fun hir hreset => ?_⟩
  obtain ⟨-, -, -, -, -, hcontrol⟩ := heffect
  have hnext := nextPc_of_sameControl hcontrol hdecode hir hreset
  rw [successor_branchInstr, setFlags_n, setFlags_z, setFlags_config] at hnext
  exact ⟨fun ht => hnext.trans (if_pos (htaken.mpr ht)), fun ht => hnext.trans (if_neg (mt htaken.mp ht))⟩

/-- A BRZ form tests Z, which is set where the value is 0 (R229 to R236). -/
theorem brzForm (hbc : f[0] = false) (hv : (branchResult f h a k s).toNat = v) (htaken : v = 0 ↔ taken) :
    BranchForm s (assemble 0b110 f 0 0 0 ||| operandBits h a k) (branchInstr f h a k) h k v taken :=
  branchForm_of_flag hv (by simpa [hbc, zeroFlag_iff, hv] using htaken)

/-- A BRN form tests N, which is set where the value is 32768 or more (R237 to R244). -/
theorem brnForm (hbc : f[0] = true) (hv : (branchResult f h a k s).toNat = v) (htaken : 32768 ≤ v ↔ taken) :
    BranchForm s (assemble 0b110 f 0 0 0 ||| operandBits h a k) (branchInstr f h a k) h k v taken :=
  branchForm_of_flag hv (by simpa [hbc, negativeFlag_iff, hv] using htaken)

end

/-- XOR with a 3-bit literal keeps the sign bit. -/
theorem negativeFlag_fuXor_zext16 (a : Word) (k : Field3) :
    negativeFlag (fuXor a (zext16 k)) = negativeFlag a := by
  simp [negativeFlag, fuXor, zext16]

end Machine

end Sys2Proof
end

section
/-! SUPPORT. The statements of spec/45_control_transfer.md. -/

namespace Sys2Proof.Proofs

open Sys2Proof Sys2Proof.Machine

/-- Settles O21: JMP writes nothing, so the next cycle's controller finds its word and `x[a]` as they were. -/
theorem jump : Obligations.Jump := by
  intro s f d a x
  have hdecode := decode_jmpWord f d a x
  have hcontrol : SameControl s s := ⟨rfl, rfl, rfl, rfl, rfl, rfl⟩
  exact ⟨hdecode, s, rfl, rfl, nextPc_of_sameControl hcontrol hdecode⟩

/-- Settles O22: each branch runs its even code on the zero-extended field, and is taken where its value is 0. -/
theorem branchOnZero : Obligations.BranchOnZero := by
  intro s h a k A B
  have hA : A < 65536 := (s.reg a).isLt
  have hk : (zext16 k).toNat ≤ 7 := zext16_toNat_le k
  have hB : B = (zext16 k).toNat := (zext16_toNat k).symm
  rw [hB]
  exact ⟨brzForm (f := 0) rfl (fuMova_toNat _) Iff.rfl,
    brzForm (f := 2) rfl (fuAdd_toNat _ _) Iff.rfl,
    brzForm (f := 4) rfl (fuSub1_toNat _ _) (by omega),
    brzForm (f := 6) rfl (fuDec_toNat _) (by omega),
    brzForm (f := 8) rfl (fuAnd_toNat _ _) Iff.rfl,
    brzForm (f := 10) rfl (fuXor_toNat _ _) Nat.xor_eq_zero_iff,
    brzForm (f := 12) rfl (fuMovb_toNat _) Iff.rfl,
    brzForm (f := 14) rfl (fuShl_toNat _) (by omega)⟩

/-- Settles O23: each branch runs its even code on the zero-extended field, and is taken where its value has the
sign bit set; a 3-bit literal, alone, shifted or ANDed, never has it. -/
theorem branchOnNegative : Obligations.BranchOnNegative := by
  intro s h a k A B
  have hA : A < 65536 := (s.reg a).isLt
  have hk : (zext16 k).toNat ≤ 7 := zext16_toNat_le k
  have hB : B = (zext16 k).toNat := (zext16_toNat k).symm
  rw [hB]
  have hand : A &&& (zext16 k).toNat ≤ (zext16 k).toNat := Nat.and_le_right
  have hxor : 32768 ≤ A ^^^ (zext16 k).toNat ↔ 32768 ≤ A := by
    rw [← fuXor_toNat, ← negativeFlag_iff, ← negativeFlag_iff, negativeFlag_fuXor_zext16]
  exact ⟨brnForm (f := 1) rfl (fuMova_toNat _) Iff.rfl,
    brnForm (f := 3) rfl (fuAdd_toNat _ _) Iff.rfl,
    brnForm (f := 5) rfl (fuSub1_toNat _ _) Iff.rfl,
    brnForm (f := 7) rfl (fuDec_toNat _) (by omega),
    brnForm (f := 9) rfl (fuAnd_toNat _ _) (iff_false_intro (by omega)),
    brnForm (f := 11) rfl (fuXor_toNat _ _) hxor,
    brnForm (f := 13) rfl (fuMovb_toNat _) (iff_false_intro (by omega)),
    brnForm (f := 15) rfl (fuShl_toNat _) (iff_false_intro (by omega))⟩

/-- Settles O24: the bundle's PL, JB and BC are the classes of the word, and its fields are the word's. -/
theorem controllerCases : Obligations.ControllerCases := by
  intro s w displaced
  have hda : (bundle s.ir).da = BitVec.ofNat 3 (w / 64) := fieldDa_eq_ofNat s.ir
  have haa : (bundle s.ir).aa = BitVec.ofNat 3 (w / 8) := fieldAa_eq_ofNat s.ir
  have hba : (bundle s.ir).ba = BitVec.ofNat 3 w := fieldBa_eq_ofNat s.ir
  simp only [nextPc, hda, haa, hba, branchTarget_eq, bundle_jump_iff]
  split
  · rfl
  split
  · rfl
  next hjump => simp only [Bool.and_eq_true_iff, bundle_branch_iff _ hjump, bundle_bc_iff]; rfl

/-- Settles O8: the 8-bit offset is the table's integer, and both rules' ranges are 64 consecutive integers, so the two
3-bit fields determine it. -/
theorem branchOffsetTable : Obligations.BranchOffsetTable := fun rule =>
  ⟨fun h l => ⟨branchOffset_toInt rule h l, displacement_wellFormed rule h l⟩,
    fun _ hoff => displacement_fields hoff⟩

end Sys2Proof.Proofs
end

section
/-! SUPPORT. The `dump` variant (spec/46_system.md R262): the core keeps running, and the host receives a dump from
exactly the cycles that run code 15. -/

namespace Sys2Proof.Machine

/-- A core that runs with the parameter `dump`. -/
def State.RunsUnderDump (s : State) : Prop := s.running = true ∧ s.config.fs15Variant = .dump

section
variable {s : State}

/-- No cycle under `dump` clears the run flag, and none changes the parameter. -/
theorem advance_runsUnderDump (hs : s.RunsUnderDump) : s.advance.RunsUnderDump := by
  obtain ⟨hrun, hdump⟩ := hs
  rw [advance_of_running hrun]
  constructor
  · rw [cycle_running, hrun, hdump]
    simp
  · rwa [cycle_config]

theorem advance_iterate_runsUnderDump (hs : s.RunsUnderDump) (k : Nat) :
    (State.advance^[k] s).RunsUnderDump := by
  induction k with
  | zero => exact hs
  | succ k ih => rw [Function.iterate_succ_apply']; exact advance_runsUnderDump ih

/-- A running core's next cycle hands out the state it leaves, where it runs code 15 under `dump`. -/
theorem stepDump_of_running (hrun : s.running = true) :
    stepDump s =
      if s.config.fs15Variant = .dump ∧ runsCode15 (s.readIM (nextPc s)) = true then some (cycle s).hostDump
      else none := by
  simp [stepDump, hrun, step_eq_cycle hrun, fetched_ir]

end

end Sys2Proof.Machine
end

section
/-! SUPPORT. The statements of spec/46_system.md. -/

namespace Sys2Proof.Proofs

open Sys2Proof Sys2Proof.Machine

/-- Settles O37: a step is a cycle, and a cycle's run flag is that of its function unit's halt signal. -/
theorem runEndsOnlyByCode15 : Obligations.RunEndsOnlyByCode15 := by
  intro s t hrun h
  rw [step_eq_cycle hrun] at h
  cases h
  exact cycle_halted_iff hrun

/-- Settles O48: running under `dump` is kept by every step of the iterated run. -/
theorem dumpVariantNeverEnds : Obligations.DumpVariantNeverEnds := by
  intro s hrun hdump k
  obtain ⟨hstill, -⟩ := advance_iterate_runsUnderDump ⟨hrun, hdump⟩ k
  exact ⟨_, core_run_eq k s, hstill⟩

/-- Settles O49: a cycle's dump is the state it leaves, and it is handed out where the variant is `dump` and the word
runs code 15. -/
theorem dumpIsOutputOfCode15 : Obligations.DumpIsOutputOfCode15 := by
  intro s t hrun h
  rw [step_eq_cycle hrun] at h
  cases h
  rw [stepDump_of_running hrun, ← runsCode15_iff]
  refine ⟨fun hdump hword => ?_, fun _ hword => ?_, fun hhalt => ?_⟩
  · exact if_pos ⟨hdump, hword⟩
  · exact if_neg fun ⟨_, h15⟩ => hword h15
  · exact if_neg fun ⟨hdump, _⟩ => absurd (hhalt.symm.trans hdump) (by decide)

end Sys2Proof.Proofs
end

section
/-! SUPPORT. What a launch that succeeds has read (spec/70_reset_and_hazards.md R338, R339), the invariant of the state
it gives, and the invariant along the whole run from a state that meets it. -/

namespace Sys2Proof.Machine

/-! ## The images of a successful launch -/

/-- A line and the lines after it load exactly where each of them does, in order. -/
theorem linesWords_cons_eq_ok_iff {line : ImageLine} {lines : List ImageLine} {words : List Word} :
    linesWords (line :: lines) = .ok words ↔
      ∃ w ws, lineWord line = .ok w ∧ linesWords lines = .ok ws ∧ words = w :: ws := by
  rw [linesWords]
  cases lineWord line with
  | error e => simp
  | ok w =>
    cases linesWords lines with
    | error e => simp
    | ok ws => simp [eq_comm]

/-- One word per line. -/
theorem length_of_linesWords_eq_ok {lines : List ImageLine} {words : List Word} (h : linesWords lines = .ok words) :
    words.length = lines.length := by
  induction lines generalizing words with
  | nil => cases h; rfl
  | cons line lines ih =>
    obtain ⟨w, ws, -, hws, rfl⟩ := linesWords_cons_eq_ok_iff.mp h
    simp [ih hws]

/-- An image that loads fits the memory: its line count was checked, and it holds one word per line. -/
theorem length_le_of_imageWords_eq_ok {file : ImageFile} {words : List Word} (h : imageWords file = .ok words) :
    words.length ≤ 65536 := by
  cases file with
  | none => cases h
  | some lines =>
    rw [imageWords] at h
    split at h
    · cases h
    · next hlines => exact length_of_linesWords_eq_ok h ▸ Nat.le_of_not_lt hlines

/-- A launch succeeds exactly on two images that load, and then answers the launch state of their words. -/
theorem launch_eq_ok_iff {config : Config} {files : List ImageFile} {s : State} :
    launch config files = .ok s ↔
      ∃ imFile dmFile im dm, files = [imFile, dmFile] ∧ imageWords imFile = .ok im ∧ imageWords dmFile = .ok dm ∧
        s = launchState config im dm := by
  constructor
  · intro h
    unfold launch at h
    split at h
    · next imFile dmFile =>
      split at h
      · next im dm him hdm => cases h; exact ⟨imFile, dmFile, im, dm, rfl, him, hdm, rfl⟩
      · cases h
      · cases h
    · cases h
  · rintro ⟨imFile, dmFile, im, dm, rfl, him, hdm, rfl⟩
    simp [launch, him, hdm]

/-! ## The invariant at launch and along a run -/

theorem launchState_inv (config : Config) {im dm : List Word} (him : im.length ≤ 65536) (hdm : dm.length ≤ 65536) :
    (launchState config im dm).Inv :=
  { im_wf := memoryFrom_wf im him, dm_wf := memoryFrom_wf dm hdm, c_zero := rfl, v_zero := rfl
    run_state := fun ⟨_, hhalt⟩ => Bool.noConfusion hhalt }

theorem launch_inv {config : Config} {files : List ImageFile} {s : State} (h : launch config files = .ok s) :
    s.Inv := by
  obtain ⟨_, _, im, dm, -, him, hdm, rfl⟩ := launch_eq_ok_iff.mp h
  exact launchState_inv config (length_le_of_imageWords_eq_ok him) (length_le_of_imageWords_eq_ok hdm)

theorem advance_inv {s : State} (hs : s.Inv) : s.advance.Inv :=
  Proofs.invariantKept s s.advance hs (step_eq_advance s)

theorem advance_iterate_inv {s : State} (hs : s.Inv) (k : Nat) : (State.advance^[k] s).Inv := by
  induction k with
  | zero => exact hs
  | succ k ih => rw [Function.iterate_succ_apply']; exact advance_inv ih

/-- The invariant suffices for safety, since every step answers a next state. -/
theorem State.Inv.safe {s : State} (hs : s.Inv) : s.Safe := fun k =>
  ⟨_, core_run_eq k s, advance_iterate_inv hs k⟩

end Sys2Proof.Machine
end

section
/-! SUPPORT. The statements of spec/60_exceptions.md. -/

namespace Sys2Proof.Proofs

open Sys2Proof Sys2Proof.Machine

/-- Settles O28: a running state's step is its cycle, a halted state's is the state itself; `step_eq_advance` is that
case split. -/
theorem everyStepAnswersNext : Obligations.EveryStepAnswersNext := fun s => ⟨s.advance, step_eq_advance s⟩

/-- Settles O29: only a set run flag starts a cycle. -/
theorem haltedCoreStays : Obligations.HaltedCoreStays := fun _ => step_of_halted

/-- Settles O32: a launch that succeeds gives a state with the invariant, which makes the whole run safe. -/
theorem everyLaunchedRunIsSafe : Obligations.EveryLaunchedRunIsSafe := fun _ _ _ hlaunch => (launch_inv hlaunch).safe

end Sys2Proof.Proofs
end

section
/-! SUPPORT. The first cycle after a launch (spec/70_reset_and_hazards.md R331, R332), exactly which inputs load
(R339), and what the loaded memories read (R330, R333, R338). -/

namespace Sys2Proof.Machine

/-! ## The first cycle -/

section
variable {s : State}

/-- Case 1 of the controller (45_control_transfer.md R220) precedes every case that reads `pc` or `ir`. -/
theorem nextPc_of_resetFlag (hreset : s.resetFlag = true) : nextPc s = 0 := by
  rw [nextPc, if_pos hreset]

/-- A cycle with the reset flag set executes the word at address 0. -/
theorem step_of_resetFlag (hrun : s.running = true) (hreset : s.resetFlag = true) :
    step s = exec (decode (s.readIM 0)) { s with pc := 0, ir := s.readIM 0, resetFlag := false } := by
  obtain ⟨hstep, -⟩ := Proofs.stepRunsDecodedInstruction s
  rw [hstep hrun, nextPc_of_resetFlag hreset]

/-- No step sets the reset flag (10_state.md R38). -/
theorem advance_resetFlag_of_clear (hclear : s.resetFlag = false) : s.advance.resetFlag = false := by
  cases hrun : s.running with
  | true => rw [advance_of_running hrun, cycle_resetFlag]
  | false => rwa [advance_of_halted hrun]

end

/-! ## Which inputs load -/

theorem exists_lineWord_eq_ok_iff {line : ImageLine} :
    (∃ w, lineWord line = .ok w) ↔ line.wellFormed = true := by
  cases line with
  | literal value => by_cases hvalue : value ≤ 0xFFFF <;> simp [lineWord, ImageLine.wellFormed, hvalue]
  | notHex => simp [lineWord, ImageLine.wellFormed]

theorem exists_linesWords_eq_ok_iff {lines : List ImageLine} :
    (∃ ws, linesWords lines = .ok ws) ↔ lines.all ImageLine.wellFormed = true := by
  induction lines with
  | nil => exact iff_of_true ⟨[], rfl⟩ rfl
  | cons line lines ih =>
    rw [List.all_cons, Bool.and_eq_true, ← exists_lineWord_eq_ok_iff, ← ih]
    constructor
    · rintro ⟨_, h⟩
      obtain ⟨w, ws, hw, hws, -⟩ := linesWords_cons_eq_ok_iff.mp h
      exact ⟨⟨w, hw⟩, ⟨ws, hws⟩⟩
    · rintro ⟨⟨w, hw⟩, ⟨ws, hws⟩⟩
      exact ⟨w :: ws, linesWords_cons_eq_ok_iff.mpr ⟨w, ws, hw, hws, rfl⟩⟩

/-- An image whose line count passes loads as its lines do. -/
theorem imageWords_of_length_le {lines : List ImageLine} (hlen : lines.length ≤ 65536) :
    imageWords (some lines) = linesWords lines := by
  rw [imageWords, if_neg (Nat.not_lt.mpr hlen)]

/-- A file loads exactly if it can be read and its image is well formed. -/
theorem exists_imageWords_eq_ok_iff {file : ImageFile} :
    (∃ ws, imageWords file = .ok ws) ↔ ∃ lines, file = some lines ∧ imageWellFormed lines = true := by
  cases file with
  | none => simp [imageWords]
  | some lines =>
    by_cases hlen : lines.length ≤ 65536
    · rw [imageWords_of_length_le hlen, exists_linesWords_eq_ok_iff]
      simp [imageWellFormed, hlen]
    · simp [imageWords, imageWellFormed, hlen, Nat.lt_of_not_le hlen]

/-! ## What an image loads -/

theorem linesWords_map_literal {vs : List Nat} (hvs : ∀ v ∈ vs, v ≤ 0xFFFF) :
    linesWords (vs.map .literal) = .ok (vs.map (BitVec.ofNat 16)) := by
  induction vs with
  | nil => rfl
  | cons v vs ih =>
    obtain ⟨hv, hrest⟩ := List.forall_mem_cons.mp hvs
    exact linesWords_cons_eq_ok_iff.mpr ⟨_, _, if_pos hv, ih hrest, rfl⟩

theorem imageWords_map_literal {vs : List Nat} (hlen : vs.length ≤ 65536) (hvs : ∀ v ∈ vs, v ≤ 0xFFFF) :
    imageWords (some (vs.map .literal)) = .ok (vs.map (BitVec.ofNat 16)) := by
  rw [imageWords_of_length_le (by rwa [List.length_map]), linesWords_map_literal hvs]

/-- Words loaded from `k` upward read back in order, and as unlisted beyond the last. -/
theorem read_memoryFrom {ws : List Word} {k : Nat} (hlen : k + ws.length ≤ 65536) {a : Word} (ha : k ≤ a.toNat) :
    (memoryFrom k ws).read a = ws.getD (a.toNat - k) unlistedWord := by
  induction ws generalizing k with
  | nil => rfl
  | cons w ws ih =>
    rw [List.length_cons] at hlen
    obtain rfl | hlt := Nat.eq_or_lt_of_le ha
    · rw [Nat.sub_self, List.getD_cons_zero, memoryFrom]
      split
      · next hw => rw [hw, read_below_wfFrom (memoryFrom_wfFrom ws _ (by omega)) (Nat.lt_succ_self _)]
      · rw [read_cons, if_pos rfl]
    · have hindex : a.toNat - k = (a.toNat - (k + 1)) + 1 := by omega
      rw [hindex, List.getD_cons_succ, ← ih (by omega) hlt, memoryFrom]
      split
      · rfl
      · rw [read_cons, if_neg hlt.ne]

/-- A memory loaded with an image holds literal `i` of the image at address `i`, and 0 beyond its end. -/
theorem read_memoryFrom_literals {vs : List Nat} (hlen : vs.length ≤ 65536) (hvs : ∀ v ∈ vs, v ≤ 0xFFFF) (a : Word) :
    ((memoryFrom 0 (vs.map (BitVec.ofNat 16))).read a).toNat = vs.getD a.toNat 0 := by
  rw [read_memoryFrom (by simpa using hlen) (Nat.zero_le _), Nat.sub_zero,
    show unlistedWord = BitVec.ofNat 16 0 from rfl, List.getD_map, BitVec.toNat_ofNat]
  refine Nat.mod_eq_of_lt (Nat.lt_succ_of_le ?_)
  by_cases hi : a.toNat < vs.length
  · rw [List.getD_eq_getElem vs 0 hi]
    exact hvs _ (List.getElem_mem hi)
  · rw [List.getD_eq_default vs 0 (Nat.le_of_not_lt hi)]
    exact Nat.zero_le _

/-! ## Reset -/

/-- Reset is the launch of two empty images under the default parameters. -/
theorem reset_eq_launchState : State.reset = launchState Config.specDefault [] [] := rfl

theorem reg_reset (r : Field3) : State.reset.reg r = 0 := Vector.getElem_replicate r.isLt

end Sys2Proof.Machine
end

section
/-! SUPPORT. The statements of spec/70_reset_and_hazards.md. -/

namespace Sys2Proof.Proofs

open Sys2Proof Sys2Proof.Machine

/-- Settles O31: reset is itself a launch state, and loading builds canonical memories. -/
theorem invariantAtLaunch : Obligations.InvariantAtLaunch :=
  ⟨reset_eq_launchState ▸ launchState_inv _ (Nat.zero_le _) (Nat.zero_le _), fun _ _ _ => launch_inv⟩

/-- Settles O34: the controller's first case chooses 0 and spends the reset flag, which nothing sets again. -/
theorem firstCycleStartsAtZero : Obligations.FirstCycleStartsAtZero := by
  refine ⟨fun s hrun hreset => ?_, fun s t hclear h => ?_⟩
  · have hpc : nextPc s = 0 := nextPc_of_resetFlag hreset
    exact ⟨cycle s, step_eq_cycle hrun, by rw [cycle_pc, hpc], by rw [cycle_ir, hpc], cycle_resetFlag s,
      step_of_resetFlag hrun hreset⟩
  · rw [step_eq_advance] at h
    cases h
    exact advance_resetFlag_of_clear hclear

/-- Settles O35: the first cycle overwrites `pc` and `ir` before its instruction runs, and reads neither. -/
theorem pcAndIrBeforeResetAreIrrelevant : Obligations.PcAndIrBeforeResetAreIrrelevant := fun s p w hrun hreset =>
  calc step { s with pc := p, ir := w }
    _ = exec (decode (s.readIM 0)) { s with pc := 0, ir := s.readIM 0, resetFlag := false } :=
      step_of_resetFlag (s := { s with pc := p, ir := w }) hrun hreset
    _ = step s := (step_of_resetFlag hrun hreset).symm

/-- Settles O45: both images load, and the launch state changes reset in the memories and the parameters only. -/
theorem launchLoadsImages : Obligations.LaunchLoadsImages := by
  intro config im dm himLen hdmLen him hdm
  refine ⟨_, launch_eq_ok_iff.mpr ⟨_, _, _, _, rfl, imageWords_map_literal himLen him,
    imageWords_map_literal hdmLen hdm, rfl⟩, fun a => ?_, rfl⟩
  exact ⟨read_memoryFrom_literals himLen him a, read_memoryFrom_literals hdmLen hdm a⟩

/-- Settles O46: a launch succeeds exactly on two files that both load. -/
theorem launchFailsExactlyOnBadInput : Obligations.LaunchFailsExactlyOnBadInput := by
  intro config files
  constructor
  · rintro ⟨s, h⟩
    obtain ⟨_, _, im, dm, rfl, him, hdm, -⟩ := launch_eq_ok_iff.mp h
    obtain ⟨i, rfl, hi⟩ := exists_imageWords_eq_ok_iff.mp ⟨im, him⟩
    obtain ⟨d, rfl, hd⟩ := exists_imageWords_eq_ok_iff.mp ⟨dm, hdm⟩
    exact ⟨i, d, rfl, hi, hd⟩
  · rintro ⟨i, d, rfl, hi, hd⟩
    obtain ⟨im, him⟩ := exists_imageWords_eq_ok_iff.mpr ⟨i, rfl, hi⟩
    obtain ⟨dm, hdm⟩ := exists_imageWords_eq_ok_iff.mpr ⟨d, rfl, hd⟩
    exact ⟨_, launch_eq_ok_iff.mpr ⟨_, _, im, dm, rfl, him, hdm, rfl⟩⟩

/-- Settles O33: the fields are reset's own, and an empty memory reads as unlisted everywhere. -/
theorem resetValues : Obligations.ResetValues :=
  ⟨reg_reset, rfl, rfl, rfl, rfl, rfl, rfl, rfl, rfl, rfl, fun a => ⟨read_nil a, read_nil a⟩⟩

end Sys2Proof.Proofs
end
